-- ==== Sys2Proof/Word.lean ====
section
/-!
DEFINITION. The words of the part: bytes and quantities of a telegram or of the configuration image, the station
clock, and the clamping of a number to a range (the Conventions of 00_scope.md).
-/

namespace Sys2Proof

/-- One byte of a telegram or of the configuration image (R171). -/
abbrev Byte := BitVec 8

/-- A two-byte quantity, high byte first where it is sent (R171). -/
abbrev Word16 := BitVec 16

/-- A value of the station clock: milliseconds in 32 bits, wrapping to zero (Conventions, "Time"). -/
abbrev Time := BitVec 32

/-- A set of station numbers as R171 codes it: station n is bit n. -/
abbrev StationMask := BitVec 32

/-- "Clamped to lo..hi": a number outside the range is set to the nearer bound (Conventions, "Ranges"). -/
def clampNat (lo hi x : Nat) : Nat := max lo (min x hi)

/-- `clampNat` on signed quantities. -/
def clampInt (lo hi x : Int) : Int := max lo (min x hi)

end Sys2Proof
end

