-- ==== Sys2Proof/Config.lean ====
section
/-!
DEFINITION. What is fixed in the part itself (not configured by the image), and the one thing the manual leaves
open inside a single event: the order of two happenings that "may be taken first in either order".
The values configured by the image are `Machine.StationConfig` in Machine/State.lean, for they are state: they are
loaded at start-up.
-/

namespace Sys2Proof.Config

/-- The order taken where one event holds two happenings and the manual allows either order (R82, R114): a free value,
one per drawing. `true` takes the second named first. Log entry 9. -/
opaque freeChoice : Nat → Bool

/-- The control period in ms (R94, R95). -/
def controlPeriod : Nat := 20
/-- The bound of the age of a hoist report in ms (R97). -/
def ageLimit : Nat := 250
/-- The bound of the level error in mm (R98). -/
def errorLimit : Int := 1000
/-- The least value of the level accumulator (R99). -/
def accumulatorMin : Int := -1048576
/-- The greatest value of the level accumulator (R99). -/
def accumulatorMax : Int := 1048575
/-- The interval of the recovery timer in ms (R61). -/
def recoveryTime : Nat := 5000
/-- The interval between ambient samples in ms (R138). -/
def ambientPeriod : Nat := 500
/-- The interval between the checks of a steady output in ms (R144). -/
def recheckTime : Nat := 200
/-- The interval of the gap timer in ms (R158). -/
def gapTime : Nat := 10
/-- The time the image read may take in ms (R164). -/
def readTime : Nat := 100
/-- The period of the default phase in ms (R141). -/
def defaultPeriod : Nat := 1000
/-- The format tag of an image (R175): 5434 hex. -/
def formatTag : Nat := 0x5434
/-- The greatest demand number (R22). -/
def maxDemandNumber : Nat := 65535

end Sys2Proof.Config
end

