-- ==== Sys2Proof/Syntax.lean ====
section
/-!
DEFINITION. The commands of the block, one constructor of `Instr` per row of spec/opcode_table.json, with the telegrams
and the readings they carry. A command is one event at the part: a line changes, a timer expires, a telegram ends.
-/

namespace Sys2Proof

/-- The two station links. -/
inductive Link where
  | a
  | b
  deriving DecidableEq, Repr

/-- The demand echo of a STATUS as sent (R173): codes are kept raw, for a code out of range is read by R172. -/
structure Echo where
  issuer : Byte
  number : Word16
  kind : Byte
  deriving DecidableEq, Repr

/-- The halt part of a STATUS, present exactly when its halted flag is set (R173). -/
structure HaltPart where
  origin : Byte
  reason : Byte
  deriving DecidableEq, Repr

/-- The hoist part of a STATUS (R173): height in mm, speed reference in mm/s as two's complement. -/
structure HoistPart where
  height : Word16
  speed : Word16
  sat : Bool
  skewWarn : Bool
  deriving DecidableEq, Repr

/-- The body of a STATUS telegram (R173), less the presence bits of its flags byte, which say which of the last four
fields are there. Role, phase, lock state and zone report stay codes (R172, "Codes out of range"). -/
structure StatusBody where
  role : Byte
  hand : Bool
  handPending : Bool
  agreed : Bool
  flashActive : Bool
  phase : Byte
  lock : Byte
  faults : BitVec 19
  proven : Byte
  stamp : Word16
  echo : Option Echo
  halt : Option HaltPart
  hoist : Option HoistPart
  zone : Option Byte
  deriving DecidableEq, Repr

/-- The bodies of the six kinds of telegram (R172). A RECORD body is carried as its bytes (R174). -/
inductive TelegramBody where
  | halt (mask : StationMask) (reason : Byte)
  | resume (mask : StationMask)
  | demand (kind : Byte) (number : Word16)
  | status (body : StatusBody)
  | query (target : Byte)
  | record (bytes : List Byte)
  deriving DecidableEq, Repr

/-- A telegram: the sender and sequence number of its header, and its body; class, kind and length follow from the
body (R172). -/
structure Telegram where
  sender : Byte
  seq : Byte
  body : TelegramBody
  deriving DecidableEq, Repr

/-- The commands of the block: one constructor per row of spec/opcode_table.json.
An encoder reading is `none` when it is invalid (R95); `line` 0..15 is GI1..GI16, `output` 0..11 is LO1..LO12 and
`slot` 0..15 is peer slot 1..16. A reading that only some cases of the event take (the encoder at a rebuild, the
ambient level at the entry into RUN) stands in the command and is read only in those cases. -/
inductive Instr where
  /-- POWER_ON: power is applied; the two DEFPAT straps as they stand (true: connected) (R163). -/
  | powerOn (strap1 strap2 : Bool)
  /-- RST_ASSERT: the RST line becomes active (R163). -/
  | rstAssert
  /-- RST_RELEASE: the RST line is released; the DEFPAT straps as they stand (R163). -/
  | rstRelease (strap1 strap2 : Bool)
  /-- IMAGE_READ_END: the read has ended with these bytes, or (`none`) the memory did not acknowledge it (R164). -/
  | imageReadEnd (response : Option (List Byte))
  /-- IMAGE_READ_TIMEOUT: 100 ms have passed without the 256th byte (R164). -/
  | imageReadTimeout
  /-- START_TIMER_EXPIRY: the entry into RUN, with the encoder reading of the rebuild and the ambient level (R169). -/
  | startTimerExpiry (encoder : Option Word16) (ambient : Byte)
  /-- RAW_INPUT_CHANGE: a general input's raw level is now `level` (R169). -/
  | rawInputChange (line : Fin 16) (level : Bool)
  /-- DEBOUNCE_EXPIRY: an input's debounce timer expires; the encoder reading of a rebuild it may bring (R169, R127). -/
  | debounceExpiry (line : Fin 16) (encoder : Option Word16)
  /-- RECEPTION_START: a reception begins on the link (R159). -/
  | receptionStart (link : Link)
  /-- BAD_CHECK_RECEPTION: a whole telegram whose check does not pass (R159). -/
  | badCheckReception (link : Link) (bytes : List Byte)
  /-- FRAMING_ERROR: a reception broken off after these bytes, or not bytes at all (R159). -/
  | framingError (link : Link) (bytes : List Byte)
  /-- FAILED_LINK_RECEPTION: a valid reception on a FAILED link (R161). -/
  | failedLinkReception (link : Link) (bytes : List Byte)
  /-- MALFORMED_TELEGRAM: a valid reception that R161 item 1 calls malformed. -/
  | malformedTelegram (link : Link) (bytes : List Byte)
  /-- OWN_NUMBER_TELEGRAM: a valid, well-formed telegram that carries the station's own number (R161 item 2). -/
  | ownNumberTelegram (link : Link) (bytes : List Byte)
  /-- STATUS_RECEIVED: a valid STATUS ends on the link (R5). -/
  | statusReceived (link : Link) (sender seq : Byte) (body : StatusBody)
  /-- DEMAND_RECEIVED: a valid DEMAND ends on the link (R24). -/
  | demandReceived (link : Link) (sender seq : Byte) (kind : Byte) (number : Word16)
  /-- HALT_RECEIVED: a valid HALT ends on the link (R115). -/
  | haltReceived (link : Link) (sender seq : Byte) (mask : StationMask) (reason : Byte)
  /-- RESUME_RECEIVED: a valid RESUME ends on the link (R116). -/
  | resumeReceived (link : Link) (sender seq : Byte) (mask : StationMask)
  /-- QUERY_RECEIVED: a valid QUERY ends on the link (R162). -/
  | queryReceived (link : Link) (sender seq : Byte) (target : Byte)
  /-- RECORD_RECEIVED: a valid RECORD ends on the link (R161). -/
  | recordReceived (link : Link) (sender seq : Byte) (bytes : List Byte)
  /-- ATTEMPT_BEGIN: the link becomes idle (R154). -/
  | attemptBegin (link : Link)
  /-- ATTEMPT_SENT: the attempt has been read back whole as sent (R154). -/
  | attemptSent (link : Link)
  /-- ATTEMPT_LOST_CONTENTION: a read-back differs within the contention part (R154). -/
  | attemptLostContention (link : Link)
  /-- ATTEMPT_DAMAGED: a read-back differs after the contention part (R154). -/
  | attemptDamaged (link : Link)
  /-- SILENCE_TIMER_EXPIRY (R159). -/
  | silenceTimerExpiry (link : Link)
  /-- DEADLINE_EXPIRY of the entry in a slot (R10, R12). -/
  | deadlineExpiry (slot : Fin 16)
  /-- STALL_TIMER_EXPIRY (R33). -/
  | stallTimerExpiry
  /-- SUPERVISION_EXPIRY (R42). -/
  | supervisionExpiry
  /-- PREWARN_TIMER_EXPIRY (R56). -/
  | prewarnTimerExpiry
  /-- T_CLEAR_EXPIRY (R72). -/
  | tClearExpiry
  /-- AMBER_TIMER_EXPIRY (R63). -/
  | amberTimerExpiry
  /-- RECOVERY_TIMER_EXPIRY (R68). -/
  | recoveryTimerExpiry
  /-- CONTROL_PERIOD_EXPIRY with the encoder reading made at it (R95, R96). -/
  | controlPeriodExpiry (encoder : Option Word16)
  /-- STATUS_PERIOD_EXPIRY (R158). -/
  | statusPeriodExpiry
  /-- GAP_TIMER_EXPIRY (R158). -/
  | gapTimerExpiry
  /-- CHECK_TIMER_EXPIRY of an output, with the conducting current read, 0..2000 mA (R144, R145, R147). -/
  | checkTimerExpiry (output : Fin 12) (current : Fin 2001)
  /-- RETRY_TIMER_EXPIRY of an output (R147). -/
  | retryTimerExpiry (output : Fin 12)
  /-- AMBIENT_SAMPLE with the level sampled (R138). -/
  | ambientSample (level : Byte)
  /-- FLASH_HALF_BOUNDARY: the flash phase has crossed into a half of its period (R130). -/
  | flashHalfBoundary
  /-- DEFAULT_PHASE_BOUNDARY: the default phase has crossed 500 or wrapped to 0 (R141). -/
  | defaultPhaseBoundary
  deriving DecidableEq, Repr

end Sys2Proof
end

