-- ==== Sys2Proof/Machine/State.lean ====
section
/-!
DEFINITION. The state of one Tolnar 460 as plain data, block by block, and its value after power-on.
A value that a rule makes a function of other fields (a permissive, the candidate, the phase, the fault set, a drive
output) has no second home here: it is computed from the fields that hold its inputs.
-/

namespace Sys2Proof.Machine

/-! ### Names -/

/-- The role of a station (R164 judgement 5). -/
inductive Role where
  | barrier
  | hoist
  | signal
  | desk
  deriving DecidableEq, Repr

/-- The kind of a BARRIER station (R167). -/
inductive BarrierKind where
  | entry
  | exit
  deriving DecidableEq, Repr

/-- The kind of a demand, OPEN or CLOSE (R22). -/
inductive DemandKind where
  | openBridge
  | closeBridge
  deriving DecidableEq, Repr

/-- The dependency flags of a peer entry, in the order of their bits in the image (R1, R175). -/
inductive DepFlag where
  | agree
  | roadWarn
  | entry
  | barrier
  | detect
  | hoist
  | marine
  deriving DecidableEq, Repr

/-- The tracking states (R1). -/
inductive Tracking where
  | vacant
  | unknown
  | acquiring
  | tracked
  | lost
  | mismatch
  deriving DecidableEq, Repr

/-- The forward steps of the three roles (R37). A step of R37 is one of these with a direction: the inverse of `lower`
is RAISE at a barrier, the inverse of `raise` is LOWER at a hoist, and so on. -/
inductive ForwardStep where
  | lower
  | lock
  | withdraw
  | raise
  | amber
  | red
  | green
  deriving DecidableEq, Repr

/-- The direction of a step (R36). -/
inductive Direction where
  | forward
  | inverse
  deriving DecidableEq, Repr

/-- The state of a journal entry (R38): DONE or PARTIAL. -/
inductive EntryState where
  | done
  | partway
  deriving DecidableEq, Repr

/-- The phase names of all roles (R54, R62, R76, R173). -/
inductive Phase where
  | raised
  | waitLower
  | lowering
  | locking
  | lowered
  | waitRaise
  | unlocking
  | raising
  | held
  | seated
  | waitRoad
  | withdrawing
  | readyUp
  | stopping
  | topHeld
  | waitChannel
  | readyDown
  | seating
  | drivingIn
  | idle
  | prewarn
  | roadStopping
  | roadStopped
  | channelClearing
  | channelOpen
  | channelClosing
  | waitRoadOpen
  | recovering
  deriving DecidableEq, Repr

/-- The ten local halt causes, in the order of their reason codes (R111, R172). -/
inductive LocalCause where
  | estop
  | isolated
  | stepTime
  | skewTrip
  | overtravel
  | encoder
  | peerLost
  | peerHalt
  | dupStation
  | operator
  deriving DecidableEq, Repr

/-- A halt reason (R111): a local cause, MAINTENANCE or OTHER. -/
inductive HaltReason where
  | cause (c : LocalCause)
  | maintenance
  | other
  deriving DecidableEq, Repr

/-- The functions of a lamp output, in the order of R128 and of the codes of R175. -/
inductive LampFunction where
  | noFunction
  | roadAmber
  | roadRedA
  | roadRedB
  | armLight
  | marineRed
  | marineGreen
  | spanLight
  | indAgreed
  | indRoadClosed
  | indSpanUp
  | indSpanSeated
  | indHalt
  | indPeer
  deriving DecidableEq, Repr

/-- The command of a lamp output, and equally a fail-safe or default pattern (R128, R140, R141). -/
inductive Command where
  | off
  | steady
  | flashA
  | flashB
  deriving DecidableEq, Repr

/-- The proof status of a lamp output (R142). -/
inductive Proof where
  | off
  | unproven
  | proven
  | openCircuit
  | short
  deriving DecidableEq, Repr

/-- The lock state of the flash phase (R131). -/
inductive LockState where
  | free
  | unlocked
  | locked
  deriving DecidableEq, Repr

/-- The dim curve (R138). -/
inductive DimCurve where
  | none
  | linear
  | square
  deriving DecidableEq, Repr

/-- The state of a link (R152). -/
inductive LinkState where
  | good
  | degraded
  | failed
  deriving DecidableEq, Repr

/-- The four transmit slots of a link controller (R152), in the order of their priority (R154). -/
inductive SlotKind where
  | haltcmd
  | demand
  | status
  | record
  deriving DecidableEq, Repr

/-- The hand state (R123). -/
inductive HandState where
  | off
  | pending
  | hand
  deriving DecidableEq, Repr

/-- The direction of a hand move: HAND_UP or HAND_DOWN (R125, R126). -/
inductive HandMove where
  | up
  | down
  deriving DecidableEq, Repr

/-- The handshake of a HOIST station (R75). -/
inductive Handshake where
  | none
  | readyUp
  | readyDown
  deriving DecidableEq, Repr

/-- The prewarn hold of a BARRIER station (R53). -/
inductive PrewarnHold where
  | absent
  | running
  | complete
  deriving DecidableEq, Repr

/-- The clearance evidence (R72). -/
inductive Evidence where
  | broken
  | timing
  | proven
  deriving DecidableEq, Repr

/-- Where the part stands between reset and RUN (R163, R166, R169): held in reset by the RST line, STARTING,
CONFIG_FAULT, or running, which is mode RUN or, while the hand state is HAND, mode HAND (R123). -/
inductive Stage where
  | inReset
  | starting
  | configFault
  | running
  deriving DecidableEq, Repr

/-! ### Timers -/

/-- A timer: stopped, or running since a station time with an interval in ms (Conventions, "Time"). -/
inductive Timer where
  | stopped
  | running (start : Time) (interval : Nat)
  deriving DecidableEq, Repr

/-- The supervision timer (R36): stopped, running since a station time with its limit in ms, or suspended with the time
that had elapsed. -/
inductive SupervisionTimer where
  | stopped
  | running (start : Time) (limit : Nat)
  | suspended (elapsed : Nat)
  deriving DecidableEq, Repr

/-! ### The loaded configuration (R167, R168, R175) -/

/-- What the configuration gives of an output record (R128). -/
structure OutputConfig where
  function : LampFunction := .noFunction
  diagnostics : Bool := false
  thresholdOne : Bool := false
  failSafeOne : Bool := false
  dim : Bool := false
  deriving DecidableEq, Repr

/-- What the configuration gives of a peer record after R165; `station` 0 is an empty slot. -/
structure PeerConfig where
  station : Nat := 0
  role : Role := .desk
  flags : BitVec 7 := 0
  deriving DecidableEq, Repr

/-- The loaded and clamped configuration. Times are in the units of R167. -/
structure StationConfig where
  station : Nat := 0
  role : Role := .desk
  barrierKind : BarrierKind := .entry
  approachSouth : Bool := false
  linkRate : Nat := 0
  statusPeriod : Nat := 0
  peerDeadline : Nat := 0
  lostThreshold : Nat := 0
  linkSilence : Nat := 0
  linkDelay : Nat := 0
  debounce : Nat := 0
  detectorMask : BitVec 4 := 0
  haltMask : StationMask := 0
  deskSet : List Nat := []
  peers : Vector PeerConfig 16 := Vector.replicate 16 {}
  stepLimits : Vector Nat 6 := Vector.replicate 6 0
  tAmber : Nat := 0
  tPrewarn : Nat := 0
  tClear : Nat := 0
  agreeTime : Nat := 0
  vMax : Nat := 0
  vFull : Nat := 0
  vCreep : Nat := 0
  ramp : Nat := 0
  decel : Nat := 0
  kp : Nat := 0
  ki : Nat := 0
  cMax : Nat := 0
  hTop : Nat := 0
  hSeat : Nat := 0
  stopBand : Nat := 0
  seatBand : Nat := 0
  skewWarn : Nat := 0
  skewTrip : Nat := 0
  flashPeriod : Nat := 0
  lockWindow : Nat := 0
  slew : Nat := 0
  outputs : Vector OutputConfig 12 := Vector.replicate 12 {}
  minProven : Vector Nat 7 := Vector.replicate 7 0
  openThreshold : Nat := 0
  threshold0 : Nat := 0
  threshold1 : Nat := 0
  blankingCode : Nat := 0
  retryTime : Nat := 0
  retryDuty : Nat := 0
  failSafe0 : Command := .off
  failSafe1 : Command := .off
  dimFloor : Nat := 0
  dimCurve : DimCurve := .none
  pwmCode : Nat := 0
  maskOpen : Bool := false
  maskShort : Bool := false
  deriving DecidableEq, Repr

/-! ### The blocks -/

/-- The configuration loader (R164, R169): the 100 ms of the read, running while the read is made, and the start
timer. -/
structure Loader where
  read : Timer := .stopped
  start : Timer := .stopped
  deriving DecidableEq, Repr

/-- One general input of the field input block (R169): the level on the line, the candidate level, the debounced level
and the debounce timer. -/
structure InputLine where
  raw : Bool := false
  candidate : Bool := false
  level : Bool := false
  timer : Timer := .stopped
  deriving DecidableEq, Repr

/-- The four fields of a peer entry that always describe one telegram (R1): STATUS copy, receipt time, captured flash
phase and arrival link. -/
structure Report where
  body : StatusBody
  receipt : Time
  captured : Nat
  link : Link
  deriving DecidableEq, Repr

/-- A peer entry (R1). -/
structure PeerEntry where
  station : Nat := 0
  role : Role := .desk
  flags : BitVec 7 := 0
  state : Tracking := .vacant
  lastSeq : Option Byte := none
  deficit : Nat := 0
  deadline : Timer := .stopped
  report : Option Report := none
  deriving DecidableEq, Repr

/-- The clearance evidence with its timer (R72). -/
structure Clearance where
  evidence : Evidence := .broken
  timer : Timer := .stopped
  deriving DecidableEq, Repr

/-- A demand: its identity and its kind (R22). -/
structure Demand where
  number : Nat
  issuer : Nat
  kind : DemandKind
  deriving DecidableEq, Repr

/-- The demand record (R23). -/
structure DemandRecord where
  adopted : Option Demand := none
  stallTimer : Timer := .stopped
  stalled : Bool := false
  counter : Nat := 0
  exhausted : Bool := false
  deriving DecidableEq, Repr

/-- A journal entry (R38). -/
structure JournalEntry where
  step : ForwardStep
  state : EntryState
  start : Time
  deriving DecidableEq, Repr

/-- A step kind with its direction (R37). -/
structure Step where
  kind : ForwardStep
  dir : Direction
  deriving DecidableEq, Repr

/-- A step in progress (R36). -/
structure StepInProgress where
  step : Step
  begun : Time
  deriving DecidableEq, Repr

/-- The sequencer (R36), less its phase, which R54, R62 and R76 name from the rest of the state. The journal's newest
entry, its top, stands first. -/
structure Sequencer where
  step : Option StepInProgress := none
  stopping : Bool := false
  interrupted : Option Step := none
  supervision : SupervisionTimer := .stopped
  journal : List JournalEntry := []
  deriving DecidableEq, Repr

/-- What a BARRIER station holds besides (R53). -/
structure BarrierState where
  hold : PrewarnHold := .absent
  timer : Timer := .stopped
  deriving DecidableEq, Repr

/-- What a SIGNAL station holds besides (R61). -/
structure SignalState where
  amberTimer : Timer := .stopped
  recovering : Bool := true
  recoveryTimer : Timer := .stopped
  deriving DecidableEq, Repr

/-- What a HOIST station holds besides (R75); `driveHeld` is set while a DRIVE_IN begun at the completion of LOWER keeps
the drive enabled (R79). -/
structure HoistState where
  handshake : Handshake := .none
  seatingStage : Bool := false
  driveHeld : Bool := false
  deriving DecidableEq, Repr

/-- The level controller (R94). `skewFull` says whether every HOIST-flagged entry was TRACKED when the present skew was
formed (R81), `expiryHeight` is the height read at the latest control period expiry with a valid reading (R101; log
entry 14), `line` the value sent last on the speed-reference output, `none` while it carries nothing (R170). -/
structure Level where
  height : Nat := 0
  mean : Nat := 0
  error : Int := 0
  accumulator : Int := 0
  sat : Bool := false
  startHeight : Nat := 0
  profile : Nat := 0
  speedRef : Int := 0
  skew : Option Nat := none
  skewFull : Bool := false
  skewWarn : Bool := false
  expiryHeight : Nat := 0
  timer : Timer := .stopped
  line : Option Int := none
  deriving DecidableEq, Repr

/-- A set of local causes, one bit per cause in the order of `LocalCause` (R174). -/
abbrev CauseSet := BitVec 10

/-- The halt record (R111). -/
structure HaltRecord where
  origins : StationMask := 0
  firstOrigin : Option Nat := none
  firstReason : Option HaltReason := none
  live : CauseSet := 0
  latched : CauseSet := 0
  deriving DecidableEq, Repr

/-- The hand panel interface (R123), with the hand move in progress (R125, R126). -/
structure HandPanel where
  state : HandState := .off
  move : Option HandMove := none
  deriving DecidableEq, Repr

/-- The changing part of an output record and its proving (R128, R142). `lit` is the lit condition as last formed, so
that the beginning and the end of a lit interval are events; `retrying` is set while the output is driven for its
retry check (R147). `pwm` is the time in µs since the present PWM period of a driven output began, and `pwmDuty` the duty
in force in that period (R139). -/
structure Output where
  command : Command := .off
  lit : Bool := false
  duty : Nat := 255
  proof : Proof := .off
  lastCurrent : Nat := 0
  check : Timer := .stopped
  retry : Timer := .stopped
  retryDue : Bool := false
  retrying : Bool := false
  pwm : Nat := 0
  pwmDuty : Nat := 255
  deriving DecidableEq, Repr

/-- The lamp controller (R128, R130, R131, R138, R141) with the proving monitor's part of each output. -/
structure Lamps where
  outputs : Vector Output 12 := Vector.replicate 12 {}
  phase : Option Nat := none
  reference : Option Nat := none
  lock : LockState := .free
  ambientTimer : Timer := .stopped
  pattern : Command := .off
  defaultPhase : Nat := 0
  deriving DecidableEq, Repr

/-- An attempt (R154): the telegram as it stands at the attempt's beginning, its slot, whether the slot has been
filled anew since (R155), and the station's flash phase at the beginning (R159). -/
structure Attempt where
  telegram : Telegram
  slot : SlotKind
  refilled : Bool
  phase : Nat
  deriving DecidableEq, Repr

/-- A link controller (R152). `captured` is the own flash phase taken at the start of a reception in progress (R159),
`none` while nothing is being received. -/
structure LinkController where
  state : LinkState := .good
  health : Nat := 0
  haltcmd : Option Telegram := none
  demand : Option Telegram := none
  status : Option Telegram := none
  record : Option Telegram := none
  attempt : Option Attempt := none
  captured : Option Nat := none
  silence : Timer := .stopped
  deriving DecidableEq, Repr

/-- The sequence counter and the STATUS former (R152, R158). -/
structure Former where
  sequence : Byte := 0
  period : Timer := .stopped
  gap : Timer := .stopped
  changePending : Bool := false
  deriving DecidableEq, Repr

/-- The state of the part. `pending` is the queue of waiting commands, `drawn` counts the free choices taken
(`Config.freeChoice`); both are the model's own fields. -/
structure State where
  stage : Stage := .starting
  clock : Time := 0
  loader : Loader := {}
  cfg : StationConfig := {}
  crc : BitVec 16 := 0xFFFF
  inputs : Vector InputLine 16 := Vector.replicate 16 {}
  zoneFlag : Bool := false
  peers : Vector PeerEntry 16 := Vector.replicate 16 {}
  peerConfig : Bool := false
  clearance : Clearance := {}
  demand : DemandRecord := {}
  seq : Sequencer := {}
  barrier : BarrierState := {}
  signal : SignalState := {}
  hoist : HoistState := {}
  level : Level := {}
  halt : HaltRecord := {}
  hand : HandPanel := {}
  lamps : Lamps := {}
  linkA : LinkController := {}
  linkB : LinkController := {}
  former : Former := {}
  drawn : Nat := 0
  pending : List Instr := []
  deriving DecidableEq, Repr

/-- The faults that stop the machine: none. The manual gives the part no stop: whatever is wrong at a station enters its
fault set, halts it or holds it in CONFIG_FAULT, and the part goes on. The type has no constructor. -/
inductive Fault where
  deriving DecidableEq, Repr

/-- The refusals. -/
inductive Refusal where
  /-- Raised only by `exec` for a command that has no meaning yet. Safe: the run stops. -/
  | notModelled (mnemonic : String)
  deriving DecidableEq, Repr

/-- The state right after power-on (R163): STARTING, the clock at 0, the image read begun and the control period timer
started, every block at the reset values of its own rules. The lines from outside are taken as inactive and the DEFPAT
straps as open, so the default pattern is OFF (log entries 1 and 2). -/
def State.reset : State :=
  { loader := { read := .running 0 Config.readTime }
    level := { timer := .running 0 Config.controlPeriod } }

end Sys2Proof.Machine
end

