-- ==== Sys2Proof/Machine/Formats.lean ====
section
/-!
DEFINITION. The formats of 13_formats.md: the codes of the named values, the check of R153, and the bytes of a telegram
(R171 to R173), written (`encode`) and read back (`decode`).
-/

namespace Sys2Proof.Machine

/-! ### Bytes -/

/-- A two-byte quantity, high byte first (R171). -/
def bytes16 (x : Word16) : List Byte := [x.extractLsb' 8 8, x.extractLsb' 0 8]

/-- A four-byte quantity, high byte first (R171). -/
def bytes32 (x : BitVec 32) : List Byte :=
  [x.extractLsb' 24 8, x.extractLsb' 16 8, x.extractLsb' 8 8, x.extractLsb' 0 8]

/-- Two bytes read as one quantity, high byte first (R171). -/
def word16 (hi lo : Byte) : Word16 := hi ++ lo

/-- Four bytes read as one quantity, high byte first (R171). -/
def word32 (b3 b2 b1 b0 : Byte) : BitVec 32 := b3 ++ b2 ++ b1 ++ b0

/-- A byte of a natural number. -/
def byteOf (n : Nat) : Byte := BitVec.ofNat 8 n

/-- Bits as a number, the first the least significant. -/
def bitsToNat : List Bool → Nat
  | [] => 0
  | b :: bs => b.toNat + 2 * bitsToNat bs

/-- A byte from its eight bits, bit 0 first. -/
def byteOfBits (bits : List Bool) : Byte := BitVec.ofNat 8 (bitsToNat bits)

/-! ### The check (R153) -/

/-- One shift of the check register (R153). -/
def crcShift (r : BitVec 16) : BitVec 16 := if r.msb then (r <<< 1) ^^^ 0x1021 else r <<< 1

/-- The register after one more byte (R153). -/
def crcByte (r : BitVec 16) (b : Byte) : BitVec 16 :=
  let x := r ^^^ (b ++ (0 : BitVec 8))
  crcShift (crcShift (crcShift (crcShift (crcShift (crcShift (crcShift (crcShift x)))))))

/-- The check over a list of bytes, the register starting at FFFF hex (R153). -/
def crc (bytes : List Byte) : BitVec 16 := bytes.foldl crcByte 0xFFFF

/-! ### Codes -/

/-- The role codes (R173). -/
def Role.code : Role → Byte
  | .barrier => 1
  | .hoist => 2
  | .signal => 3
  | .desk => 4

/-- The role a code names; a code outside 1..4 names none (R172). -/
def roleOf (b : Byte) : Option Role :=
  match b.toNat with
  | 1 => some .barrier
  | 2 => some .hoist
  | 3 => some .signal
  | 4 => some .desk
  | _ => none

/-- The demand kind codes (R172). -/
def DemandKind.code : DemandKind → Byte
  | .openBridge => 1
  | .closeBridge => 2

/-- The demand kind a code names; a code outside 1..2 names none (R172). -/
def demandKindOf (b : Byte) : Option DemandKind :=
  match b.toNat with
  | 1 => some .openBridge
  | 2 => some .closeBridge
  | _ => none

/-- The phases of a role in the order of their codes (R173). -/
def Role.phases : Role → List Phase
  | .barrier => [.raised, .waitLower, .lowering, .locking, .lowered, .waitRaise, .unlocking, .raising, .held]
  | .hoist => [.seated, .waitRoad, .withdrawing, .readyUp, .raising, .stopping, .topHeld, .waitChannel, .readyDown,
      .lowering, .seating, .drivingIn, .held]
  | .signal => [.idle, .prewarn, .roadStopping, .roadStopped, .channelClearing, .channelOpen, .channelClosing,
      .waitRoadOpen, .recovering]
  | .desk => [.idle]

/-- The code of a phase at a role (R173). -/
def phaseCode (r : Role) (p : Phase) : Byte := byteOf (r.phases.idxOf p)

/-- The phase a code names at a role; a code beyond the role's list names none (R172). -/
def phaseOf (r : Role) (b : Byte) : Option Phase := r.phases[b.toNat]?

/-- The place of a local cause in the order of the reason codes (R172, R174). -/
def LocalCause.index : LocalCause → Nat
  | .estop => 0
  | .isolated => 1
  | .stepTime => 2
  | .skewTrip => 3
  | .overtravel => 4
  | .encoder => 5
  | .peerLost => 6
  | .peerHalt => 7
  | .dupStation => 8
  | .operator => 9

/-- The halt reason codes (R172); OTHER is written as 0. -/
def HaltReason.code : HaltReason → Byte
  | .cause c => byteOf (c.index + 1)
  | .maintenance => 11
  | .other => 0

/-- The reason a code of a received HALT is recorded as (R115, R172). -/
def haltReasonOf (b : Byte) : HaltReason :=
  match b.toNat with
  | 1 => .cause .estop
  | 2 => .cause .isolated
  | 3 => .cause .stepTime
  | 4 => .cause .skewTrip
  | 5 => .cause .overtravel
  | 6 => .cause .encoder
  | 7 => .cause .peerLost
  | 8 => .cause .peerHalt
  | 9 => .cause .dupStation
  | 10 => .cause .operator
  | 11 => .maintenance
  | _ => .other

/-- The lock state codes (R173). -/
def LockState.code : LockState → Byte
  | .free => 0
  | .unlocked => 1
  | .locked => 2

/-- The number of a forward step in its role's list, from 1 (R37, R174). -/
def ForwardStep.number : ForwardStep → Nat
  | .lower => 1
  | .lock => 2
  | .withdraw => 1
  | .raise => 2
  | .amber => 1
  | .red => 2
  | .green => 3

/-- The place of a dependency flag in its byte of the peer record (R175). -/
def DepFlag.bit : DepFlag → Nat
  | .agree => 0
  | .roadWarn => 1
  | .entry => 2
  | .barrier => 3
  | .detect => 4
  | .hoist => 5
  | .marine => 6

/-- The function codes of an output (R175). -/
def LampFunction.code : LampFunction → Nat
  | .noFunction => 0
  | .roadAmber => 1
  | .roadRedA => 2
  | .roadRedB => 3
  | .armLight => 4
  | .marineRed => 5
  | .marineGreen => 6
  | .spanLight => 7
  | .indAgreed => 8
  | .indRoadClosed => 9
  | .indSpanUp => 10
  | .indSpanSeated => 11
  | .indHalt => 12
  | .indPeer => 13

/-- The function a code names; a code beyond the last is NONE (R167). -/
def lampFunctionOf (n : Nat) : LampFunction :=
  match n with
  | 1 => .roadAmber
  | 2 => .roadRedA
  | 3 => .roadRedB
  | 4 => .armLight
  | 5 => .marineRed
  | 6 => .marineGreen
  | 7 => .spanLight
  | 8 => .indAgreed
  | 9 => .indRoadClosed
  | 10 => .indSpanUp
  | 11 => .indSpanSeated
  | 12 => .indHalt
  | 13 => .indPeer
  | _ => .noFunction

/-- The proof status codes (R174). -/
def Proof.code : Proof → Byte
  | .off => 0
  | .unproven => 1
  | .proven => 2
  | .openCircuit => 3
  | .short => 4

/-- The tracking state codes (R174). -/
def Tracking.code : Tracking → Byte
  | .vacant => 0
  | .unknown => 1
  | .acquiring => 2
  | .tracked => 3
  | .lost => 4
  | .mismatch => 5

/-- The link state codes (R174). -/
def LinkState.code : LinkState → Byte
  | .good => 0
  | .degraded => 1
  | .failed => 2

/-! ### Telegrams -/

/-- The kind code of a telegram (R172). -/
def bodyKind : TelegramBody → Byte
  | .halt .. => 1
  | .resume .. => 2
  | .demand .. => 3
  | .status .. => 4
  | .query .. => 5
  | .record .. => 6

/-- The contention class of a kind code (R154, R172). -/
def kindClass (kind : Byte) : Option Byte :=
  match kind.toNat with
  | 1 => some 0
  | 2 => some 0
  | 3 => some 1
  | 4 => some 2
  | 5 => some 3
  | 6 => some 3
  | _ => none

/-- The contention class of a telegram (R154, R172). -/
def bodyClass : TelegramBody → Byte
  | .halt .. => 0
  | .resume .. => 0
  | .demand .. => 1
  | .status .. => 2
  | .query .. => 3
  | .record .. => 3

/-- The flags byte of a STATUS (R173). -/
def statusFlags (b : StatusBody) : Byte :=
  byteOfBits [b.hand, b.handPending, b.halt.isSome, b.agreed, b.flashActive, b.hoist.isSome, b.zone.isSome,
    b.echo.isSome]

/-- The bytes of an echo (R173). -/
def encodeEcho (e : Echo) : List Byte := e.issuer :: bytes16 e.number ++ [e.kind]

/-- The bytes of a hoist part (R173). -/
def encodeHoistPart (h : HoistPart) : List Byte :=
  bytes16 h.height ++ bytes16 h.speed ++ [byteOfBits [h.sat, h.skewWarn]]

/-- The bytes of an optional part: none while it is absent. -/
def encodePart {α : Type} (f : α → List Byte) : Option α → List Byte
  | some x => f x
  | none => []

/-- The bytes of a STATUS body (R173). -/
def encodeStatus (b : StatusBody) : List Byte :=
  [b.role, statusFlags b, b.phase, b.lock] ++ bytes32 (b.faults.setWidth 32) ++ [b.proven] ++ bytes16 b.stamp
    ++ encodePart encodeEcho b.echo ++ encodePart (fun h => [h.origin, h.reason]) b.halt
    ++ encodePart encodeHoistPart b.hoist ++ encodePart (fun z => [z]) b.zone

/-- The bytes of a body (R172). -/
def encodeBody : TelegramBody → List Byte
  | .halt mask reason => bytes32 mask ++ [reason]
  | .resume mask => bytes32 mask
  | .demand kind number => kind :: bytes16 number
  | .status body => encodeStatus body
  | .query target => [target]
  | .record bytes => bytes

/-- The bytes of a telegram before its check: header and body (R172). -/
def encodeTelegram (t : Telegram) : List Byte :=
  [bodyClass t.body, t.sender, bodyKind t.body, t.seq, byteOf (encodeBody t.body).length] ++ encodeBody t.body

/-- The whole telegram as it stands on the link, its check appended high byte first (R153, R172). -/
def frameTelegram (t : Telegram) : List Byte := encodeTelegram t ++ bytes16 (crc (encodeTelegram t))

/-- Reads an optional part of a STATUS from the bytes that are left: `size` bytes when it is declared. -/
def takePart {α : Type} (declared : Bool) (size : Nat) (f : List Byte → Option α) (bytes : List Byte) :
    Option (Option α × List Byte) :=
  if declared then
    if bytes.length < size then none
    else (f (bytes.take size)).map (fun x => (some x, bytes.drop size))
  else some (none, bytes)

/-- An echo from its four bytes (R173). -/
def decodeEcho : List Byte → Option Echo
  | [i, n1, n0, k] => some { issuer := i, number := word16 n1 n0, kind := k }
  | _ => none

/-- A halt part from its two bytes (R173). -/
def decodeHaltPart : List Byte → Option HaltPart
  | [o, r] => some { origin := o, reason := r }
  | _ => none

/-- A hoist part from its five bytes (R173). -/
def decodeHoistPart : List Byte → Option HoistPart
  | [h1, h0, v1, v0, f] =>
    some { height := word16 h1 h0, speed := word16 v1 v0, sat := f.getLsbD 0, skewWarn := f.getLsbD 1 }
  | _ => none

/-- A zone part from its one byte (R173). -/
def decodeZone : List Byte → Option Byte
  | [z] => some z
  | _ => none

/-- A STATUS body from its bytes; `none` when the length differs from what the flags declare (R172, R173). -/
def decodeStatus : List Byte → Option StatusBody
  | role :: flags :: phase :: lock :: f3 :: f2 :: f1 :: f0 :: proven :: s1 :: s0 :: rest =>
    (takePart (flags.getLsbD 7) 4 decodeEcho rest).bind fun (echo, rest) =>
    (takePart (flags.getLsbD 2) 2 decodeHaltPart rest).bind fun (halt, rest) =>
    (takePart (flags.getLsbD 5) 5 decodeHoistPart rest).bind fun (hoist, rest) =>
    (takePart (flags.getLsbD 6) 1 decodeZone rest).bind fun (zone, rest) =>
    if rest.isEmpty then
      some { role := role, hand := flags.getLsbD 0, handPending := flags.getLsbD 1, agreed := flags.getLsbD 3,
             flashActive := flags.getLsbD 4, phase := phase, lock := lock,
             faults := (word32 f3 f2 f1 f0).setWidth 19, proven := proven, stamp := word16 s1 s0,
             echo := echo, halt := halt, hoist := hoist, zone := zone }
    else none
  | _ => none

/-- The length a RECORD body must have by its own counts and flags (R174): 92 + 6j + 7p, plus 4 with a step, 13 with the
level part and 1 with the zone part. -/
def recordLength (bytes : List Byte) : Nat :=
  let presence := bytes.getD 5 0
  let j := (bytes.getD 6 0).toNat
  let step := if presence.getLsbD 2 then 4 else 0
  let p := (bytes.getD (7 + 6 * j + step + 22) 0).toNat
  92 + 6 * j + 7 * p + step + (if presence.getLsbD 0 then 13 else 0) + (if presence.getLsbD 1 then 1 else 0)

/-- A body from its kind code and bytes; `none` when the length disagrees with the kind (R172). -/
def decodeBody (kind : Byte) (bytes : List Byte) : Option TelegramBody :=
  match kind.toNat, bytes with
  | 1, [m3, m2, m1, m0, r] => some (.halt (word32 m3 m2 m1 m0) r)
  | 2, [m3, m2, m1, m0] => some (.resume (word32 m3 m2 m1 m0))
  | 3, [k, n1, n0] => some (.demand k (word16 n1 n0))
  | 4, _ => (decodeStatus bytes).map .status
  | 5, [t] => some (.query t)
  | 6, _ => if bytes.length = recordLength bytes then some (.record bytes) else none
  | _, _ => none

/-- What a reception that has ended is (R159, R161 item 1). -/
inductive Reception where
  | framing
  | badCheck
  | malformed
  | valid (t : Telegram)
  deriving DecidableEq, Repr

/-- The bytes before the check of a received telegram. -/
def beforeCheck (bytes : List Byte) : List Byte := bytes.take (bytes.length - 2)

/-- Whether the received bytes are a whole telegram of the length the header declares (R159). -/
def isWhole (bytes : List Byte) : Bool := decide (7 ≤ bytes.length) && bytes.length == 7 + (bytes.getD 4 0).toNat

/-- Whether the check of a whole telegram passes (R153). -/
def checkPasses (bytes : List Byte) : Bool :=
  bytes.drop (bytes.length - 2) == bytes16 (crc (beforeCheck bytes))

/-- The telegram that header and body bytes spell; `none` when they are malformed (R161 item 1, R172). -/
def decodeTelegram : List Byte → Option Telegram
  | cls :: sender :: kind :: seq :: _ :: body =>
    if sender.toNat == 0 || decide (31 < sender.toNat) || kindClass kind != some cls then none
    else (decodeBody kind body).map (fun b => { sender := sender, seq := seq, body := b })
  | _ => none

/-- Judges the bytes of an ended reception (R159, R161 item 1). -/
def judgeReception (bytes : List Byte) : Reception :=
  if !isWhole bytes then .framing
  else if !checkPasses bytes then .badCheck
  else match decodeTelegram (beforeCheck bytes) with
    | some t => .valid t
    | none => .malformed

end Sys2Proof.Machine
end

