-- ==== Sys2Proof/Decode.lean ====
section
/-!
DEFINITION. The decoders of the block. The command table gives no row any bits, so no word spells a command. The bytes of
a reception that has ended do: they say which command the end of the reception is (R159, R161).
-/

namespace Sys2Proof

/-- The command a word spells by the bits of the command table: none, for no row has bits (log entry 22). -/
def decodeTableWord (_nbits _w : Nat) : Option Instr := none

/-- The command that the reception of a telegram is, by its kind (R161). -/
def telegramCommand (link : Link) (t : Telegram) : Instr :=
  match t.body with
  | .status body => .statusReceived link t.sender t.seq body
  | .demand kind number => .demandReceived link t.sender t.seq kind number
  | .halt mask reason => .haltReceived link t.sender t.seq mask reason
  | .resume mask => .resumeReceived link t.sender t.seq mask
  | .query target => .queryReceived link t.sender t.seq target
  | .record bytes => .recordReceived link t.sender t.seq bytes

/-- The command that the end of a reception is, at a station of number `own` and a link that is FAILED or not (R159,
R161). -/
def receptionCommand (own : Nat) (failed : Bool) (link : Link) (bytes : List Byte) : Instr :=
  match Machine.judgeReception bytes with
  | .framing => .framingError link bytes
  | .badCheck => .badCheckReception link bytes
  | .malformed => if failed then .failedLinkReception link bytes else .malformedTelegram link bytes
  | .valid t =>
    if failed then .failedLinkReception link bytes
    else if t.sender.toNat == own then .ownNumberTelegram link bytes
    else telegramCommand link t

end Sys2Proof
end

