-- ==== Sys2Proof/Machine/Ops.lean ====
section
/-!
DEFINITION. The named operations over the state that every block uses: timers, sets of stations and of causes, the two
link controllers and their slots, the sequence counter, and the forming of telegrams (R114, R155 to R157).
-/

namespace Sys2Proof.Machine

/-! ### Time -/

/-- The time from `start` to `now`, a difference of station times modulo 2^32 (Conventions, "Time"). -/
def since (now start : Time) : Nat := (now - start).toNat

/-- Whether a timer has expired at `now`: it is running and its interval has elapsed. -/
def Timer.due (t : Timer) (now : Time) : Bool :=
  match t with
  | .stopped => false
  | .running start interval => decide (interval ≤ since now start)

/-- Whether a timer runs. -/
def Timer.isRunning : Timer → Bool
  | .stopped => false
  | .running .. => true

/-- The timer of a fixed beat, restarted from the instant it was due (R95, R138). -/
def Timer.nextBeat : Timer → Timer
  | .stopped => .stopped
  | .running start interval => .running (start + BitVec.ofNat 32 interval) interval

/-- Whether a supervision timer has expired at `now` (R42). -/
def SupervisionTimer.due (t : SupervisionTimer) (now : Time) : Bool :=
  match t with
  | .running start limit => decide (limit ≤ since now start)
  | _ => false

/-- The time a supervision timer shows at `now` in ms (R52). -/
def SupervisionTimer.elapsed (t : SupervisionTimer) (now : Time) : Nat :=
  match t with
  | .stopped => 0
  | .running start _ => since now start
  | .suspended elapsed => elapsed

/-- A timer started now with an interval in ms. -/
def State.startTimer (s : State) (interval : Nat) : Timer := .running s.clock interval

/-! ### Conditions of the whole station -/

/-- The station is past its start: mode RUN or HAND. -/
def State.isRunning (s : State) : Bool := s.stage == .running

/-- The own station number. -/
def State.own (s : State) : Nat := s.cfg.station

/-- The own role. -/
def State.role (s : State) : Role := s.cfg.role

/-- The station is halted while its origin set is non-empty (R112). -/
def State.halted (s : State) : Bool := s.halt.origins != 0

/-- The mode is HAND exactly while the hand state is HAND (R123). -/
def State.inHand (s : State) : Bool := s.hand.state == .hand

/-! ### Sets -/

/-- Whether a station is in a set of stations. -/
def maskHas (m : StationMask) (n : Nat) : Bool := m.getLsbD n

/-- A set of stations with one more member. -/
def maskAdd (m : StationMask) (n : Nat) : StationMask := m ||| BitVec.twoPow 32 n

/-- Whether a cause is in a set of local causes. -/
def causeHas (cs : CauseSet) (c : LocalCause) : Bool := cs.getLsbD c.index

/-- A set of local causes with one more member. -/
def causeAdd (cs : CauseSet) (c : LocalCause) : CauseSet := cs ||| BitVec.twoPow 10 c.index

/-- A set of local causes without one. -/
def causeRemove (cs : CauseSet) (c : LocalCause) : CauseSet := cs &&& ~~~(BitVec.twoPow 10 c.index)

/-- ESTOP and ISOLATED are live, the other causes latched (R113). -/
def LocalCause.isLive : LocalCause → Bool
  | .estop => true
  | .isolated => true
  | _ => false

/-- Whether a local cause is present in the halt record (R111). -/
def HaltRecord.has (h : HaltRecord) (c : LocalCause) : Bool :=
  if c.isLive then causeHas h.live c else causeHas h.latched c

/-! ### The links -/

/-- A link controller by name. -/
def State.link (s : State) : Link → LinkController
  | .a => s.linkA
  | .b => s.linkB

/-- The state with one link controller replaced. -/
def State.setLink (s : State) (l : Link) (c : LinkController) : State :=
  match l with
  | .a => { s with linkA := c }
  | .b => { s with linkB := c }

/-- A FAILED link sends nothing and delivers nothing (R160). -/
def LinkController.failed (c : LinkController) : Bool := c.state == .failed

/-- The station is isolated while both links are FAILED (R160). -/
def State.bothFailed (s : State) : Bool := s.linkA.failed && s.linkB.failed

/-- The telegram waiting in a slot. -/
def LinkController.slot (c : LinkController) : SlotKind → Option Telegram
  | .haltcmd => c.haltcmd
  | .demand => c.demand
  | .status => c.status
  | .record => c.record

/-- The controller with a slot's content replaced. -/
def LinkController.setSlot (c : LinkController) (k : SlotKind) (t : Option Telegram) : LinkController :=
  match k with
  | .haltcmd => { c with haltcmd := t }
  | .demand => { c with demand := t }
  | .status => { c with status := t }
  | .record => { c with record := t }

/-- Fills a slot of one link unless the link is FAILED; an attempt of that slot's telegram goes on with the telegram it
began with and finds the slot filled anew (R155). -/
def LinkController.fill (c : LinkController) (k : SlotKind) (t : Telegram) : LinkController :=
  if c.failed then c
  else
    let c := c.setSlot k (some t)
    { c with attempt := c.attempt.map (fun a => if a.slot == k then { a with refilled := true } else a) }

/-- Places a telegram in its slot on each link that is not FAILED (R155). -/
def State.place (s : State) (k : SlotKind) (t : Telegram) : State :=
  { s with linkA := s.linkA.fill k t, linkB := s.linkB.fill k t }

/-- Forms a telegram: it takes the sequence counter's value and the counter advances (R157); it is then placed in the
slots of its kind (R155). -/
def State.formTelegram (s : State) (k : SlotKind) (body : TelegramBody) : State :=
  let t : Telegram := { sender := byteOf s.own, seq := s.former.sequence, body := body }
  { s with former := { s.former with sequence := s.former.sequence + 1 } }.place k t

/-- The bodies waiting in the HALTCMD slot of either link (R156). -/
def State.waitingHaltcmd (s : State) : List TelegramBody :=
  (s.linkA.haltcmd.toList ++ s.linkB.haltcmd.toList).map (·.body)

/-- The union of a new HALT mask with the masks of the HALTs waiting (R156). -/
def joinHaltMask (mask : StationMask) : List TelegramBody → StationMask
  | .halt m _ :: rest => joinHaltMask (mask ||| m) rest
  | _ :: rest => joinHaltMask mask rest
  | [] => mask

/-- The union of a new RESUME mask with the masks of the RESUMEs waiting (R156). -/
def joinResumeMask (mask : StationMask) : List TelegramBody → StationMask
  | .resume m :: rest => joinResumeMask (mask ||| m) rest
  | _ :: rest => joinResumeMask mask rest
  | [] => mask

/-- Forms a HALT under the halt mask, joined with what waits (R114, R156); none is formed while the station is isolated
or when the halt mask is empty (R114). -/
def State.formHalt (s : State) (reason : HaltReason) : State :=
  if s.bothFailed || s.cfg.haltMask == 0 then s
  else s.formTelegram .haltcmd (.halt (joinHaltMask s.cfg.haltMask s.waitingHaltcmd) reason.code)

/-- Forms a RESUME under the desk's halt mask, joined with what waits (R118, R156); none is formed while the desk is
isolated (R118). -/
def State.formResume (s : State) : State :=
  if s.bothFailed then s
  else s.formTelegram .haltcmd (.resume (joinResumeMask s.cfg.haltMask s.waitingHaltcmd))

/-! ### Free choices -/

/-- Draws a free choice of order, and counts it (log entry 9). -/
def State.draw (s : State) : Bool × State :=
  (Config.freeChoice s.drawn, { s with drawn := s.drawn + 1 })

end Sys2Proof.Machine
end

