-- ==== Sys2Proof/Machine/Operands.lean ====
section
/-!
DEFINITION. The field inputs by role (R170) and what is read from them directly: the detectors, the zone occupancy and
the zone report (R69, R70).
-/

namespace Sys2Proof.Machine

/-- The debounced level of a general input; `n` 0 is GI1 (R170). -/
def State.gi (s : State) (n : Fin 16) : Bool := s.inputs[n].level

/-- ESTOP, GI1 of every role. -/
def State.estopInput (s : State) : Bool := s.gi 0
/-- HAND_KEY, GI2. -/
def State.handKey (s : State) : Bool := s.gi 1
/-- HAND_UP or HAND_DOWN, GI3 and GI4 of a BARRIER or HOIST. -/
def State.handButton (s : State) : HandMove → Bool
  | .up => s.gi 2
  | .down => s.gi 3
/-- The UP limit, GI5 of a BARRIER. -/
def State.upLimit (s : State) : Bool := s.gi 4
/-- The DOWN limit, GI6 of a BARRIER. -/
def State.downLimit (s : State) : Bool := s.gi 5
/-- LOCKED, GI7 of a BARRIER. -/
def State.lockedInput (s : State) : Bool := s.gi 6
/-- UNLOCKED, GI8 of a BARRIER. -/
def State.unlockedInput (s : State) : Bool := s.gi 7
/-- SEATED, GI5 of a HOIST. -/
def State.seatedInput (s : State) : Bool := s.gi 4
/-- LOCKS_IN, GI6 of a HOIST. -/
def State.locksIn (s : State) : Bool := s.gi 5
/-- LOCKS_OUT, GI7 of a HOIST. -/
def State.locksOut (s : State) : Bool := s.gi 6
/-- TOP_LIMIT, GI8 of a HOIST. -/
def State.topLimit (s : State) : Bool := s.gi 7

/-- The role has the hand panel: BARRIER or HOIST (R123). -/
def Role.hasHandPanel : Role → Bool
  | .barrier => true
  | .hoist => true
  | _ => false

/-- The role has detector inputs: BARRIER or SIGNAL (R69). -/
def Role.hasDetectorInputs : Role → Bool
  | .barrier => true
  | .signal => true
  | _ => false

/-- Whether DET1..DET4 (`i` 0..3) is enabled: the mask is taken as empty at a HOIST or DESK (R69). -/
def State.detectorEnabled (s : State) (i : Nat) : Bool :=
  s.role.hasDetectorInputs && s.cfg.detectorMask.getLsbD i

/-- The station has detectors when at least one is enabled (R69). -/
def State.hasDetectors (s : State) : Bool := s.role.hasDetectorInputs && s.cfg.detectorMask != 0

/-- An enabled detector is occupied: its debounced input is active (R69). -/
def State.zoneOccupied (s : State) : Bool :=
  (s.detectorEnabled 0 && s.gi 8) || (s.detectorEnabled 1 && s.gi 9) || (s.detectorEnabled 2 && s.gi 10)
    || (s.detectorEnabled 3 && s.gi 11)

/-- The station's detectors are faulted while DET_FAULT is active and the station has detectors (R69). -/
def State.detectorsFaulted (s : State) : Bool := s.hasDetectors && s.gi 12

/-- The zone report (R70), as its code (R173): 0 CLEAR, 1 OCCUPIED, 2 FAULT. -/
def State.zoneReport (s : State) : Byte :=
  if s.detectorsFaulted then 2 else if s.zoneFlag then 1 else 0

end Sys2Proof.Machine
end

