-- ==== Sys2Proof/Machine/Permissives.lean ====
section
/-!
DEFINITION. The permissive evaluator (R14 to R21) and the clearance evidence's broken condition (R72): truth values
formed from the peer entries, the demand record and the own detectors.
-/

namespace Sys2Proof.Machine

/-- The entry carries a dependency flag; a VACANT slot carries none (R1, R2). -/
def PeerEntry.has (p : PeerEntry) (f : DepFlag) : Bool := p.state != .vacant && p.flags.getLsbD f.bit

/-- The STATUS copy of the entry. -/
def PeerEntry.copy (p : PeerEntry) : Option StatusBody := p.report.map (·.body)

/-- The entries that carry a flag. -/
def State.flagged (s : State) (f : DepFlag) : List PeerEntry := s.peers.toList.filter (·.has f)

/-- The entry contributes: it is TRACKED, its copy reports mode RUN and the attribute (R15). -/
def PeerEntry.contributes (attr : PeerEntry → StatusBody → Bool) (p : PeerEntry) : Bool :=
  p.state == .tracked &&
    match p.copy with
    | some b => !b.hand && attr p b
    | none => false

/-- The phase in a copy, read under the entry's expected role, is one of those named for that role (R21). -/
def phaseAmong (r : Role) (phases : List Phase) (p : PeerEntry) (b : StatusBody) : Bool :=
  p.role == r &&
    match phaseOf p.role b.phase with
    | some ph => phases.contains ph
    | none => false

/-- The copy echoes this demand, number, issuer and kind (R16). -/
def echoes (d : Demand) (_ : PeerEntry) (b : StatusBody) : Bool :=
  match b.echo with
  | some e => e.number.toNat == d.number && e.issuer.toNat == d.issuer && demandKindOf e.kind == some d.kind
  | none => false

/-- The bits of the proven-function set (R173). -/
def roadRedBit : Nat := 3
/-- The bit of MARINE_RED in the proven-function set (R173). -/
def marineRedBit : Nat := 5

/-- The copy reports a function as proven (R17). -/
def reportsProven (bit : Nat) (_ : PeerEntry) (b : StatusBody) : Bool := b.proven.getLsbD bit

/-- The permissives (section 1.4). -/
inductive Permissive where
  | agreed
  | warn
  | entryDown
  | barriersDown
  | barriersUp
  | clear
  | hoistsReadyUp
  | hoistsReadyDown
  | hoistsTop
  | hoistsSeated
  | marineRed
  deriving DecidableEq, Repr

/-- A permissive over a flag: at least one entry carries it and every entry that carries it contributes (R15). -/
def State.formed (s : State) (f : DepFlag) (attr : PeerEntry → StatusBody → Bool) : Bool :=
  !(s.flagged f).isEmpty && (s.flagged f).all (·.contributes attr)

/-- As `formed`, but true at a HOIST station where no entry carries HOIST (R15, R20). -/
def State.formedReady (s : State) (attr : PeerEntry → StatusBody → Bool) : Bool :=
  ((s.flagged .hoist).isEmpty && s.role == .hoist) || s.formed .hoist attr

/-- The value of a permissive (R15 to R20); every permissive is false throughout STARTING and CONFIG_FAULT. -/
def State.permissive (s : State) (p : Permissive) : Bool :=
  s.isRunning &&
    match p with
    | .agreed =>
      match s.demand.adopted with
      | some d => s.formed .agree (echoes d)
      | none => false
    | .warn => s.formed .roadWarn (reportsProven roadRedBit)
    | .entryDown => s.formed .entry (phaseAmong .barrier [.lowered])
    | .barriersDown => s.formed .barrier (phaseAmong .barrier [.lowered])
    | .barriersUp => s.formed .barrier (phaseAmong .barrier [.raised])
    | .clear => s.clearance.evidence == .proven
    | .hoistsReadyUp => s.formedReady (phaseAmong .hoist [.readyUp, .raising])
    | .hoistsReadyDown => s.formedReady (phaseAmong .hoist [.readyDown, .lowering, .seating])
    | .hoistsTop => s.formed .hoist (phaseAmong .hoist [.topHeld])
    | .hoistsSeated => s.formed .hoist (phaseAmong .hoist [.seated])
    | .marineRed => s.formed .marine (reportsProven marineRedBit)

/-- The kind of the adopted demand. -/
def State.adoptedKind (s : State) : Option DemandKind := s.demand.adopted.map (·.kind)

/-- "AGREED on OPEN", "AGREED on CLOSE" (R35). -/
def State.agreedOn (s : State) (k : DemandKind) : Bool :=
  s.permissive .agreed && s.adoptedKind == some k

/-- At least one configured entry is not TRACKED (R14). -/
def State.somePeerUntracked (s : State) : Bool :=
  s.peers.toList.any (fun p => p.state != .vacant && p.state != .tracked)

/-- Every HOIST-flagged entry is TRACKED. -/
def State.hoistPeersTracked (s : State) : Bool := (s.flagged .hoist).all (·.state == .tracked)

/-- Some HOIST-flagged entry's copy reports the halted flag set or mode HAND (R88). The copy by which an entry leaves
TRACKED for MISMATCH counts too (log entry 39). -/
def State.hoistPeerStopped (s : State) : Bool :=
  (s.flagged .hoist).any fun p =>
    match p.copy with
    | some b => b.halt.isSome || b.hand
    | none => false

/-- The entry contributes a clear zone: TRACKED, mode RUN, zone part CLEAR (R19). -/
def PeerEntry.clearZone (p : PeerEntry) : Bool :=
  p.contributes (fun _ b => b.zone == some 0)

/-- The clearance evidence is held at EXIT barriers and at hoists (R72). -/
def State.holdsEvidence (s : State) : Bool :=
  (s.role == .barrier && s.cfg.barrierKind == .exit) || s.role == .hoist

/-- The broken condition of the clearance evidence (R72). -/
def State.evidenceBroken (s : State) : Bool :=
  (s.flagged .detect).isEmpty || !(s.flagged .detect).all (·.clearZone) || s.zoneOccupied || s.detectorsFaulted

/-- The DETECTOR fault (R74): own detectors faulted, or a TRACKED DETECT-flagged entry reporting FAULT. -/
def State.detectorFault (s : State) : Bool :=
  s.detectorsFaulted ||
    (s.flagged .detect).any fun p =>
      p.state == .tracked &&
        match p.copy with
        | some b => b.zone == some 2
        | none => false

end Sys2Proof.Machine
end

