-- ==== Sys2Proof/Machine/Proving.lean ====
section
/-!
DEFINITION. The proving monitor (R142 to R149): the check of one output, its hold-off and retry, how one output record
follows its command and lit condition, and the proven-function set formed over the outputs.
-/

namespace Sys2Proof.Machine

/-! ### One output -/

/-- An output found SHORT is held off except while it is driven for its retry check (R147). -/
def Output.heldOff (o : Output) : Bool := o.proof == .short && !o.retrying

/-- An output is driven while it is lit and not held off (R128). -/
def Output.driven (o : Output) : Bool := o.lit && !o.heldOff

/-- The command is a flashing one (R128). -/
def Command.flashing : Command → Bool
  | .flashA => true
  | .flashB => true
  | _ => false

/-- The blanking time in ms of a blanking code (R144). -/
def blankingTime (code : Nat) : Nat :=
  match code with
  | 0 => 2
  | 1 => 5
  | 2 => 10
  | 3 => 20
  | 4 => 30
  | 5 => 50
  | 6 => 80
  | _ => 120

/-- The configured blanking time in ms (R144). -/
def StationConfig.blanking (c : StationConfig) : Nat := blankingTime c.blankingCode

/-- The selected threshold of an output (R142). -/
def StationConfig.selectedThreshold (c : StationConfig) (o : OutputConfig) : Nat :=
  if o.thresholdOne then c.threshold1 else c.threshold0

/-- The check timer runs with the 200 ms of a steady output's later checks (R144). -/
def Timer.isRecheck : Timer → Bool
  | .running _ interval => interval == Config.recheckTime
  | .stopped => false

/-- The duty an output's next PWM period takes: the retry duty while it is driven for its retry check, else its own
(R139, R147). -/
def Output.dutyInPlace (c : StationConfig) (o : Output) : Nat := if o.retrying then c.retryDuty else o.duty

/-- An output that becomes driven starts a PWM period at that event (R139). `wasDriven` is its driven condition before. -/
def Output.followDriven (c : StationConfig) (wasDriven : Bool) (o : Output) : Output :=
  if o.driven && !wasDriven then { o with pwm := 0, pwmDuty := o.dutyInPlace c } else o

/-- The proof status follows the command (R143); a retry that is due or being taken is skipped when the command falls
to OFF (R147). -/
def Output.followCommand (o : Output) (cmd : Command) : Output :=
  let o := { o with command := cmd }
  if cmd == .off then
    if o.proof == .short && !(o.retryDue || o.retrying) then o
    else { o with proof := .off, check := .stopped, retry := .stopped, retryDue := false, retrying := false }
  else if o.proof == .off then { o with proof := .unproven }
  else o

/-- What the retry does when the lit condition or the command changes (R147): a due retry is taken under STEADY, or at
the beginning of the next lit interval; a retry whose lit interval ends early stays due. DESIGN CHOICE: a retry being
taken whose command changes between commanded values while the output stays lit runs on with its blanking time, and a
due retry that is taken at once because its command became STEADY keeps the retry due flag set until its check (log
entry 16). -/
def Output.followRetry (now : Time) (c : StationConfig) (begins : Bool) (o : Output) : Output :=
  if o.proof == .short then
    if o.retrying then
      if o.lit then o else { o with retrying := false, retryDue := true, check := .stopped }
    else if o.retryDue && (o.command == .steady || begins) then
      { o with retrying := true, check := .running now c.blanking }
    else o
  else o

/-- What the check timer does when an ON interval of an output begins, ends or runs on under another command (R144).
`wasDriven` and `was` are the driven condition and the command before the event. -/
def Output.followInterval (now : Time) (c : StationConfig) (wasDriven : Bool) (was : Command) (o : Output) : Output :=
  if o.proof == .short then o
  else if !o.driven then { o with check := .stopped }
  else if !wasDriven then { o with check := .running now c.blanking }
  else if was.flashing && o.command == .steady then { o with check := .running now Config.recheckTime }
  else if was == .steady && o.command.flashing && o.check.isRecheck then { o with check := .stopped }
  else o

/-- One output record after an event: its command and lit condition as formed now, with the changes of status, retry,
check timer and PWM period that they bring (R139, R143, R144, R147). An output with diagnostics off is never checked
(R143). DESIGN CHOICE: an output lit before an event and after it is in one ON interval, so that one whose command passes
between FLASH_A and FLASH_B as the phase crosses a half runs its interval on (log entry 38). -/
def Output.follow (now : Time) (c : StationConfig) (cfg : OutputConfig) (cmd : Command) (lit : Bool) (o : Output) :
    Output :=
  let begins := lit && !o.lit
  let next := (({ o.followCommand cmd with lit := lit } : Output).followRetry now c begins).followDriven c o.driven
  if cfg.diagnostics then next.followInterval now c o.driven o.command else next

/-- A normal check of the current `i` (R145): short, open or pass, with the effects of R144, R146 and R147. -/
def Output.check_ (now : Time) (c : StationConfig) (cfg : OutputConfig) (i : Nat) (o : Output) : Output :=
  if c.selectedThreshold cfg < i then
    { o with lastCurrent := i, proof := .short, check := .stopped, retryDue := false, retrying := false,
             retry := .running now (c.retryTime * 1000) }
  else
    { o with lastCurrent := i, proof := if i < c.openThreshold then .openCircuit else .proven,
             check := if o.command == .steady then .running now Config.recheckTime else .stopped }

/-- A retry check of the current `i` (R147): a failed one ends the driving; after a passed one the output is driven at
its own duty from this event, in the PWM period in progress. DESIGN CHOICE: a passed one clears the retry due flag too
(log entry 16). -/
def Output.retryCheck (now : Time) (c : StationConfig) (cfg : OutputConfig) (i : Nat) (o : Output) : Output :=
  if c.selectedThreshold cfg < i then
    { o with lastCurrent := i, check := .stopped, retryDue := false, retrying := false,
             retry := .running now (c.retryTime * 1000) }
  else
    { o with lastCurrent := i, proof := .unproven, retryDue := false, retrying := false, pwmDuty := o.duty,
             check := if o.command == .steady then .running now Config.recheckTime else .stopped }

/-- The retry falls due (R147): skipped under OFF, taken at once under STEADY, made due under a flashing command. -/
def Output.retryFallsDue (now : Time) (c : StationConfig) (o : Output) : Output :=
  let o := { o with retry := .stopped }
  if o.proof == .short then
    match o.command with
    | .off => { o with proof := .off, retryDue := false, retrying := false, check := .stopped }
    | .steady =>
      ({ o with retrying := true, check := .running now c.blanking } : Output).followDriven c o.driven
    | _ => { o with retryDue := true }
  else o

/-! ### Function proving -/

/-- The place of a provable function among the seven (R148, R175). -/
def LampFunction.provable : LampFunction → Option (Fin 7)
  | .roadAmber => some 0
  | .roadRedA => some 1
  | .roadRedB => some 2
  | .armLight => some 3
  | .marineRed => some 4
  | .marineGreen => some 5
  | .spanLight => some 6
  | _ => none

/-- The outputs with their configuration, LO1 first. -/
def State.outputPairs (s : State) : List (OutputConfig × Output) :=
  s.cfg.outputs.toList.zip s.lamps.outputs.toList

/-- A provable function is proven while at least its MIN_PROVEN of its outputs are PROVEN (R148); a MIN_PROVEN is at
least 1, so a function on no output is never proven. -/
def State.functionProven (s : State) (f : LampFunction) : Bool :=
  match f.provable with
  | some i =>
    let n := (s.outputPairs.filter (fun (c, o) => c.function == f && o.proof == .proven)).length
    decide (1 ≤ n) && decide (s.cfg.minProven[i] ≤ n)
  | none => false

/-- The composite function ROAD_RED (R148). -/
def State.roadRedProven (s : State) : Bool := s.functionProven .roadRedA && s.functionProven .roadRedB

/-- The proven-function set in the bits of R173. -/
def State.provenSet (s : State) : Byte :=
  byteOfBits [s.functionProven .roadAmber, s.functionProven .roadRedA, s.functionProven .roadRedB, s.roadRedProven,
    s.functionProven .armLight, s.functionProven .marineRed, s.functionProven .marineGreen,
    s.functionProven .spanLight]

/-- Some output of a function is commanded. -/
def State.functionCommanded (s : State) (f : LampFunction) : Bool :=
  s.outputPairs.any (fun (c, o) => c.function == f && o.command != .off)

/-- LAMP_OPEN (R149). -/
def State.lampOpen (s : State) : Bool := s.lamps.outputs.toList.any (·.proof == .openCircuit)

/-- LAMP_SHORT (R149). -/
def State.lampShort (s : State) : Bool := s.lamps.outputs.toList.any (·.proof == .short)

end Sys2Proof.Machine
end

