-- ==== Sys2Proof/Machine/Sequencer.lean ====
section
/-!
DEFINITION. The sequencer: steps, journal, candidate, phase, start and completion conditions, the beginning and the
endings of a step, and the rebuilding of the journal (R36 to R50, with the role rules R54 to R65 and R76 to R93).
-/

namespace Sys2Proof.Machine

/-! ### Steps and journal -/

/-- The forward steps of a role in list order (R37). -/
def Role.steps : Role → List ForwardStep
  | .barrier => [.lower, .lock]
  | .hoist => [.withdraw, .raise]
  | .signal => [.amber, .red, .green]
  | .desk => []

/-- The forward step after another in the role's list, `none` after the last (R37). -/
def ForwardStep.next : ForwardStep → Option ForwardStep
  | .lower => some .lock
  | .withdraw => some .raise
  | .amber => some .red
  | .red => some .green
  | _ => none

/-- The travel steps: LOWER and RAISE of a BARRIER, RAISE and LOWER of a HOIST (R37). -/
def Step.isTravel (st : Step) : Bool := st.kind == .lower || st.kind == .raise

/-- The step limit of a step, as an index into the six of the image (R42). -/
def Step.limit (st : Step) : Fin 6 :=
  match st.kind, st.dir with
  | .lower, .forward => 0
  | .lock, .forward => 1
  | .lock, .inverse => 2
  | .lower, .inverse => 3
  | .withdraw, .forward => 0
  | .raise, .forward => 1
  | .raise, .inverse => 2
  | .withdraw, .inverse => 3
  | .amber, .forward => 0
  | .red, .forward => 1
  | .green, .forward => 2
  | .green, .inverse => 3
  | .red, .inverse => 4
  | .amber, .inverse => 5

/-- The journal when a step begins (R38): a re-run or a push for a forward step, the top marked PARTIAL for an inverse. -/
def journalBegin (now : Time) (st : Step) (j : List JournalEntry) : List JournalEntry :=
  match st.dir, j with
  | .forward, e :: rest =>
    if e.step == st.kind && e.state == .partway then { e with start := now } :: rest
    else { step := st.kind, state := .partway, start := now } :: e :: rest
  | .forward, [] => [{ step := st.kind, state := .partway, start := now }]
  | .inverse, e :: rest => { e with state := .partway, start := now } :: rest
  | .inverse, [] => []

/-- The journal when a step completes (R38). -/
def journalComplete (dir : Direction) (j : List JournalEntry) : List JournalEntry :=
  match dir, j with
  | .forward, e :: rest => { e with state := .done } :: rest
  | .inverse, _ :: rest => rest
  | _, [] => []

/-- The step in progress, less its start time. -/
def State.stepNow (s : State) : Option Step := s.seq.step.map (·.step)

/-- This step is in progress. -/
def State.doing (s : State) (k : ForwardStep) (d : Direction) : Bool :=
  s.stepNow == some { kind := k, dir := d }

/-- A hoist's RAISE or LOWER is in progress, its stopping stage included. -/
def State.hoistTravel (s : State) : Bool :=
  s.role == .hoist && (s.doing .raise .forward || s.doing .raise .inverse)

/-- The journal's top is this forward step, DONE. -/
def State.topDone (s : State) (k : ForwardStep) : Bool :=
  match s.seq.journal with
  | e :: _ => e.step == k && e.state == .done
  | [] => false

/-- The recovery state of a SIGNAL station is IN_RECOVERY (R61). -/
def State.inRecovery (s : State) : Bool := s.role == .signal && s.signal.recovering

/-! ### Candidate -/

/-- GREEN's held condition HOISTS_TOP is lost while GREEN is in progress, or DONE with no step in progress (R92). -/
def State.greenLost (s : State) : Bool :=
  s.role == .signal && !s.inRecovery && !s.permissive .hoistsTop &&
    (s.doing .green .forward || (s.topDone .green && s.seq.step.isNone))

/-- The candidate as the adopted demand and the journal name it (R39). -/
def State.journalCandidate (s : State) : Option Step :=
  match s.adoptedKind, s.seq.journal with
  | none, _ => none
  | some .openBridge, [] => s.role.steps.head?.map (fun k => { kind := k, dir := .forward })
  | some .openBridge, e :: _ =>
    if e.state == .partway then some { kind := e.step, dir := .forward }
    else e.step.next.map (fun k => { kind := k, dir := .forward })
  | some .closeBridge, [] => none
  | some .closeBridge, e :: _ => some { kind := e.step, dir := .inverse }

/-- The candidate (R39): none in recovery (R61), GREEN_OFF while GREEN's held condition is lost (R45, R92). -/
def State.candidate (s : State) : Option Step :=
  if s.inRecovery then none
  else if s.greenLost then some { kind := .green, dir := .inverse }
  else s.journalCandidate

/-! ### Phase -/

/-- The phase of a BARRIER station (R54). -/
def State.barrierPhase (s : State) : Phase :=
  match s.stepNow with
  | some { kind := .lower, dir := .forward } => .lowering
  | some { kind := .lock, dir := .forward } => .locking
  | some { kind := .lock, dir := .inverse } => .unlocking
  | some _ => .raising
  | none =>
    match s.demand.adopted, s.candidate with
    | none, _ => if s.seq.journal.isEmpty then .raised else .held
    | some _, some { kind := _, dir := .forward } => .waitLower
    | some _, some { kind := _, dir := .inverse } => .waitRaise
    | some _, none => if s.seq.journal.isEmpty then .raised else .lowered

/-- The phase of a HOIST station (R76); the first row that fits names it. DESIGN CHOICE: in HAND the kept journal and the
demand adopted at present name it, so that a demand adopted in HAND can change the phase, and the span light with it (R46
and R76 against R136; log entry 36). -/
def State.hoistPhase (s : State) : Phase :=
  if s.seq.stopping then .stopping
  else match s.stepNow with
  | some { kind := .withdraw, dir := .forward } => .withdrawing
  | some { kind := .raise, dir := .forward } => .raising
  | some { kind := .raise, dir := .inverse } => if s.hoist.seatingStage then .seating else .lowering
  | some _ => .drivingIn
  | none =>
    match s.demand.adopted with
    | none => if s.seq.journal.isEmpty then .seated else .held
    | some _ =>
      match s.hoist.handshake with
      | .readyUp => .readyUp
      | .readyDown => .readyDown
      | .none =>
        match s.candidate with
        | some { kind := _, dir := .forward } => .waitRoad
        | some { kind := .raise, dir := .inverse } => .waitChannel
        | some _ => .seating
        | none => if s.seq.journal.isEmpty then .seated else .topHeld

/-- The phase of a SIGNAL station (R62). -/
def State.signalPhase (s : State) : Phase :=
  if s.signal.recovering then .recovering
  else if s.doing .green .forward then .channelClearing
  else if s.doing .green .inverse then .channelClosing
  else match s.seq.journal with
  | [] => .idle
  | e :: _ =>
    match e.step with
    | .green => if e.state == .done then .channelOpen else .channelClosing
    | .red =>
      if e.state == .partway then .roadStopping
      else if s.adoptedKind == some .closeBridge then .waitRoadOpen
      else .roadStopped
    | _ => .prewarn

/-- The phase of the station (R46). -/
def State.phase (s : State) : Phase :=
  match s.role with
  | .barrier => s.barrierPhase
  | .hoist => s.hoistPhase
  | .signal => s.signalPhase
  | .desk => .idle

/-! ### Conditions of a step -/

/-- The present skew allows a start of travel (R81, R83): at most SKEW_WARN, formed with every HOIST-flagged entry
TRACKED. Where none has been formed in the handshake, a span with a single drive, which has no HOIST-flagged entry, counts
it as 0 (R81; log entry 34), and any other waits for the next control period expiry. -/
def State.skewAllowsStart (s : State) : Bool :=
  match s.level.skew with
  | some k => decide (k ≤ s.cfg.skewWarn) && s.level.skewFull
  | none => (s.flagged .hoist).isEmpty

/-- The start conditions of a step (R57, R58, R59 at a BARRIER; R78, R79, R81, R83 at a HOIST; R63, R64, R65, R91, R93 at
a SIGNAL). -/
def State.startCondition (s : State) (st : Step) : Bool :=
  match st.kind, st.dir with
  | .lower, .forward =>
    s.agreedOn .openBridge && s.barrier.hold == .complete &&
      (s.cfg.barrierKind == .entry || (s.permissive .entryDown && s.permissive .clear))
  | .lock, .forward => true
  | .lower, .inverse => s.agreedOn .closeBridge && s.permissive .hoistsSeated
  | .lock, .inverse => s.agreedOn .closeBridge && s.permissive .hoistsSeated
  | .withdraw, .forward => s.agreedOn .openBridge && s.permissive .barriersDown && s.permissive .clear
  | .raise, .forward => s.hoist.handshake == .readyUp && s.permissive .hoistsReadyUp && s.skewAllowsStart
  | .raise, .inverse => s.hoist.handshake == .readyDown && s.permissive .hoistsReadyDown && s.skewAllowsStart
  | .withdraw, .inverse => s.seatedInput
  | .amber, .forward => s.agreedOn .openBridge
  | .red, .forward => true
  | .green, .forward => s.permissive .hoistsTop
  | .green, .inverse => s.agreedOn .closeBridge || s.greenLost
  | .red, .inverse => s.agreedOn .closeBridge && s.permissive .barriersUp
  | .amber, .inverse => true

/-- The conditions of R40 that do not depend on the candidate: RUN, no hand request, not halted, no step in progress and
no stopping stage. -/
def State.mayBegin (s : State) : Bool :=
  s.isRunning && s.hand.state == .off && !s.halted && s.seq.step.isNone && !s.seq.stopping

/-- The completion condition of a step in progress as read from inputs, height and lamps (R57 to R59, R64, R65, R78,
R79, R82, R84, R91, R93). AMBER completes at the expiry of its timer alone (R63); a stopping stage has no completion
(R85). -/
def State.completionCondition (s : State) (st : Step) : Bool :=
  !s.seq.stopping &&
    match st.kind, st.dir with
    | .lower, .forward => s.downLimit
    | .lock, .forward => s.lockedInput
    | .lock, .inverse => s.unlockedInput
    | .lower, .inverse => s.upLimit
    | .withdraw, .forward => s.locksOut
    | .raise, .forward => decide (s.cfg.hTop ≤ s.level.height + s.cfg.stopBand)
    | .raise, .inverse => s.seatedInput
    | .withdraw, .inverse => s.locksIn
    | .amber, .forward => false
    | .red, .forward => s.roadRedProven
    | .green, .forward => s.functionProven .marineGreen && !s.functionCommanded .marineRed
    | .green, .inverse => s.functionProven .marineRed
    | .red, .inverse => true
    | .amber, .inverse => true

/-- SEATED ends the stop of a LOWER (R85). -/
def State.seatedEndsStop (s : State) : Bool := s.seq.stopping && s.doing .raise .inverse && s.seatedInput

/-! ### Beginning and ending a step -/

/-- The level controller at the beginning of a travel step or hand move: accumulator 0, SAT clear, the start height
taken, the held profile speed 0 (R81, R99, R101, R102, R109). DESIGN CHOICE: after an invalid reading at the latest
control period expiry the start height is the height read at the last expiry with a valid one (log entry 14). -/
def Level.begin_ (v : Level) : Level :=
  { v with accumulator := 0, sat := false, startHeight := v.expiryHeight, profile := 0 }

/-- The height is within SEAT_BAND of H_SEAT: the seating stage is entered (R84). -/
def State.nearSeat (s : State) : Bool := decide (s.level.height ≤ s.cfg.hSeat + s.cfg.seatBand)

/-- Begins a step (R38, R40): journal, step in progress and supervision timer; the amber timer (R63); at a travel step
of a hoist the handshake, the level controller and the seating stage (R81, R83, R84); the drive kept across the boundary
from LOWER to DRIVE_IN (R79). DESIGN CHOICE: of the conditions of R84 that R83 judges at once, the seating stage and
SEATED are; overtravel below the seat is judged from the next control period expiry (log entry 40). -/
def State.beginStep (s : State) (st : Step) (afterLower : Bool) : State :=
  let s1 : State :=
    { s with
      seq := { s.seq with
        step := some { step := st, begun := s.clock }
        supervision := .running s.clock (100 * s.cfg.stepLimits[st.limit])
        journal := journalBegin s.clock st s.seq.journal } }
  match st.kind, st.dir with
  | .amber, .forward => { s1 with signal := { s1.signal with amberTimer := s.startTimer (1000 * s.cfg.tAmber) } }
  | .raise, .forward => { s1 with hoist := { s1.hoist with handshake := .none }, level := s1.level.begin_ }
  | .raise, .inverse =>
    { s1 with hoist := { s1.hoist with handshake := .none, seatingStage := s.nearSeat }, level := s1.level.begin_ }
  | .withdraw, .inverse => { s1 with hoist := { s1.hoist with driveHeld := afterLower } }
  | _, _ => s1

/-- What every ending of a step has in common (section 3.5): no step in progress, the stopping and seating stages
absent, the amber timer stopped, the speed reference 0 (R77); the supervision timer as the ending leaves it. -/
def State.leaveStep (s : State) (timer : SupervisionTimer) : State :=
  { s with
    seq := { s.seq with step := none, stopping := false, supervision := timer }
    signal := { s.signal with amberTimer := .stopped }
    hoist := { s.hoist with seatingStage := false, driveHeld := false }
    level := { s.level with speedRef := 0 } }

/-- Ends the step without completion: stop, supervision expiry or abandonment (R42, R43, R45); the journal stays. -/
def State.endStep (s : State) : State := s.leaveStep .stopped

/-- Completes the step in progress (R41): the journal takes the completion. -/
def State.completeStep (s : State) (st : Step) : State :=
  let s1 := s.endStep
  { s1 with seq := { s1.seq with journal := journalComplete st.dir s.seq.journal } }

/-- Interrupts the step in progress (R44): it becomes the interrupted step and its timer is suspended. -/
def State.interruptStep (s : State) : State :=
  match s.seq.step with
  | some p =>
    let s1 := s.leaveStep (.suspended (s.seq.supervision.elapsed s.clock))
    { s1 with seq := { s1.seq with interrupted := some p.step } }
  | none => s

/-- Discards the interrupted step and its suspended timer (R122, R124). -/
def State.discardInterrupted (s : State) : State :=
  match s.seq.step with
  | some _ => s
  | none => { s with seq := { s.seq with interrupted := none, supervision := .stopped } }

/-- What a reversal does to a step in progress (R34, R43): a barrier's travel step ends; a hoist's enters its stopping
stage; any other step runs on. -/
def State.stopTravel (s : State) : State :=
  match s.stepNow with
  | some st =>
    match st.kind with
    | .lower => s.endStep
    | .raise => { s with seq := { s.seq with stopping := true } }
    | _ => s
  | none => s

/-! ### The handshake of a hoist (R80) -/

/-- The handshake a hoist may hold or enter for its candidate. -/
def handshakeOf : Option Step → Handshake
  | some { kind := .raise, dir := .forward } => .readyUp
  | some { kind := .raise, dir := .inverse } => .readyDown
  | _ => .none

/-- The conditions under which a handshake is entered (R80). -/
def State.handshakeEntered (s : State) : Handshake :=
  match handshakeOf s.candidate with
  | .readyUp => if s.agreedOn .openBridge then .readyUp else .none
  | .readyDown => if s.agreedOn .closeBridge && s.permissive .marineRed then .readyDown else .none
  | .none => .none

/-- The handshake after an event (R80): left when the station is halted, in HAND, in a step, or the candidate is another;
entered when its row holds. -/
def State.handshakeNow (s : State) : Handshake :=
  if s.role != .hoist || !s.isRunning || s.inHand || s.halted || s.seq.step.isSome || s.seq.stopping then .none
  else if s.hoist.handshake != .none && s.hoist.handshake == handshakeOf s.candidate then s.hoist.handshake
  else s.handshakeEntered

/-- The state with the handshake brought up to date (R80). -/
def State.followHandshake (s : State) : State :=
  { s with hoist := { s.hoist with handshake := s.handshakeNow } }

/-! ### Rebuilding the journal -/

/-- The rebuilt journal of a BARRIER from its inputs, newest first (R47). -/
def barrierJournal (now : Time) (up down locked : Bool) : List JournalEntry :=
  if up && !down then []
  else if down && !up then
    [{ step := .lock, state := if locked then .done else .partway, start := now },
     { step := .lower, state := .done, start := now }]
  else [{ step := .lower, state := .partway, start := now }]

/-- The rebuilt journal of a HOIST from its inputs and whether the height is known to be at the top, newest first (R48). -/
def hoistJournal (now : Time) (seated locksIn locksOut atTop : Bool) : List JournalEntry :=
  if seated then
    if locksIn && !locksOut then []
    else if locksOut && !locksIn then [{ step := .withdraw, state := .done, start := now }]
    else [{ step := .withdraw, state := .partway, start := now }]
  else
    [{ step := .raise, state := if atTop then .done else .partway, start := now },
     { step := .withdraw, state := .done, start := now }]

/-- The height of a rebuild's reading is at least H_top - STOP_BAND; an invalid reading is not (R48). -/
def State.readingAtTop (s : State) : Option Word16 → Bool
  | some h => decide (s.cfg.hTop ≤ h.toNat + s.cfg.stopBand)
  | none => false

/-- The journal a rebuild gives (R47, R48); a SIGNAL or DESK journal is left as it is (R49). -/
def State.rebuiltJournal (s : State) (encoder : Option Word16) : List JournalEntry :=
  match s.role with
  | .barrier => barrierJournal s.clock s.upLimit s.downLimit s.lockedInput
  | .hoist => hoistJournal s.clock s.seatedInput s.locksIn s.locksOut (s.readingAtTop encoder)
  | _ => s.seq.journal

/-- Rebuilds the journal (R47): the journal is replaced whole, with no step in progress or interrupted and the
supervision timer stopped; a hoist records a valid reading as its height (R95). -/
def State.rebuild (s : State) (encoder : Option Word16) : State :=
  let s1 : State := { s with seq := { journal := s.rebuiltJournal encoder } }
  match s.role, encoder with
  | .hoist, some h => { s1 with level := { s1.level with height := h.toNat } }
  | _, _ => s1

end Sys2Proof.Machine
end

