-- ==== Sys2Proof/Machine/Halt.lean ====
section
/-!
DEFINITION. The halt record and the hand panel interface: local causes, origins, the effects of becoming halted and of
being resumed (R111 to R122), and the hand state and hand moves (R123 to R127).
-/

namespace Sys2Proof.Machine

/-! ### The hand move -/

/-- Ends a hand move (R125, R126): the drive is released, and at a hoist the speed reference becomes 0. -/
def State.endHandMove (s : State) : State :=
  match s.hand.move with
  | some _ => { s with hand := { s.hand with move := none }, level := { s.level with speedRef := 0 } }
  | none => s

/-! ### Becoming halted -/

/-- What the event of becoming halted does to motion (R44, R77, R80, R106, R119): the step in progress is interrupted,
the handshake left, the hand move ended, the speed reference set to 0. -/
def State.stopMotion (s : State) : State :=
  let s1 := s.interruptStep
  { s1 with
    hoist := { s1.hoist with handshake := .none }
    hand := { s1.hand with move := none }
    level := { s1.level with speedRef := 0 } }

/-- Adds a station number to the origin set (R112): when the set was empty the station becomes halted, with that first
origin and reason. -/
def State.addOrigin (s : State) (n : Nat) (reason : HaltReason) : State :=
  let s1 : State := { s with halt := { s.halt with origins := maskAdd s.halt.origins n } }
  if s.halted then s1
  else ({ s1 with halt := { s1.halt with firstOrigin := some n, firstReason := some reason } } : State).stopMotion

/-- The halt record with a local cause present (R111). -/
def HaltRecord.put (h : HaltRecord) (c : LocalCause) : HaltRecord :=
  if c.isLive then { h with live := causeAdd h.live c } else { h with latched := causeAdd h.latched c }

/-- A local cause arises (R113, R114): unless it is present already, it is made present, the own number joins the origin
set, and a HALT is formed under the halt mask. -/
def State.raiseCause (s : State) (c : LocalCause) : State :=
  if s.halt.has c then s
  else (({ s with halt := s.halt.put c } : State).addOrigin s.own (.cause c)).formHalt (.cause c)

/-- Several local causes arise at one event, one after the other; the free choice gives the order of two (R114). -/
def State.raiseCauses (s : State) (cs : List LocalCause) : State :=
  match cs with
  | [] => s
  | [c] => s.raiseCause c
  | _ =>
    let (second, s1) := s.draw
    (if second then cs.reverse else cs).foldl State.raiseCause s1

/-- A live cause is removed; nothing else in the halt record changes (R113). -/
def State.removeLive (s : State) (c : LocalCause) : State :=
  { s with halt := { s.halt with live := causeRemove s.halt.live c } }

/-! ### HALT and RESUME -/

/-- A HALT handed on to the halt record (R115): taken when its mask names the own number. -/
def State.takeHalt (s : State) (sender : Nat) (mask : StationMask) (reason : Byte) : State :=
  if maskHas mask s.own then s.addOrigin sender (haltReasonOf reason) else s

/-- What a RESUME does to the halt record (R116 items 1 to 3): latched causes removed; the set emptied, but for the own
number while a live cause is present, which then becomes first origin with the live cause as reason. -/
def HaltRecord.resumed (h : HaltRecord) (own : Nat) (estopActive : Bool) : HaltRecord :=
  if h.live == 0 then { h with origins := 0, firstOrigin := none, firstReason := none, latched := 0 }
  else
    { h with
      origins := h.origins &&& BitVec.twoPow 32 own
      firstOrigin := some own
      firstReason := some (.cause (if estopActive then .estop else .isolated))
      latched := 0 }

/-- Taking a RESUME (R116, R118): the halt record is cleared; if the station is thereby resumed, the interrupted step is
discarded (R122). -/
def State.resume (s : State) : State :=
  let s1 : State := { s with halt := s.halt.resumed s.own s.estopInput }
  if s.halted && !s1.halted then s1.discardInterrupted else s1

/-- A RESUME telegram handed on to the halt record (R116): taken from a desk-set member when its mask names the own
number. -/
def State.takeResume (s : State) (sender : Nat) (mask : StationMask) : State :=
  if s.cfg.deskSet.contains sender && maskHas mask s.own then s.resume else s

/-! ### The hand panel -/

/-- Entry into HAND (R124): the handshake becomes NONE and an interrupted step none; the journal is kept. -/
def State.enterHand (s : State) : State :=
  let s1 := s.discardInterrupted
  { s1 with hand := { s1.hand with state := .hand }, hoist := { s1.hoist with handshake := .none } }

/-- A PENDING request is granted when no step is in progress or the station is halted (R123). -/
def State.grantHand (s : State) : State :=
  if s.hand.state == .pending && (s.seq.step.isNone || s.halted) then s.enterHand else s

/-- HAND_KEY becomes active (R123). -/
def State.keyActive (s : State) : State :=
  if s.hand.state == .off then
    if s.seq.step.isNone || s.halted then s.enterHand
    else { s with hand := { s.hand with state := .pending } }
  else s

/-- HAND_KEY becomes inactive (R123, R127): a pending request is cancelled; HAND is released, the hand move ended and the
journal rebuilt, with the encoder read at a hoist (R95). -/
def State.keyInactive (s : State) (encoder : Option Word16) : State :=
  match s.hand.state with
  | .off => s
  | .pending => { s with hand := { s.hand with state := .off } }
  | .hand =>
    let s1 := s.endHandMove
    let s2 := ({ s1 with hand := { s1.hand with state := .off } } : State).rebuild encoder
    if s2.role == .hoist && encoder.isNone then s2.raiseCause .encoder else s2

/-- The other button of the hand panel. -/
def HandMove.other : HandMove → HandMove
  | .up => .down
  | .down => .up

/-- A hand move is refused (R125, R126). -/
def State.handMoveRefused (s : State) (m : HandMove) : Bool :=
  s.halted ||
    match s.role, m with
    | .barrier, .down => s.downLimit
    | .barrier, .up => s.upLimit || s.lockedInput
    | .hoist, .up => !s.hoistPeersTracked || s.topLimit || (s.seatedInput && !s.locksOut)
    | .hoist, .down => !s.hoistPeersTracked || s.seatedInput
    | _, _ => true

/-- A hand move begins, with the level controller taking it at a hoist (R109, R126). -/
def State.beginHandMove (s : State) (m : HandMove) : State :=
  let s1 : State := { s with hand := { s.hand with move := some m } }
  if s.role == .hoist then { s1 with level := s1.level.begin_ } else s1

/-- HAND_UP or HAND_DOWN becomes active or is released (R125, R126). -/
def State.handButtonChanged (s : State) (m : HandMove) (active : Bool) : State :=
  match s.hand.move with
  | some m' => if (active && m' != m) || (!active && m' == m) then s.endHandMove else s
  | none =>
    if active && s.inHand && !s.handButton m.other && !s.handMoveRefused m then s.beginHandMove m else s

/-- The condition that ends a hand move other than its buttons, a halt or the key (R125, R126): the limit of its
direction, or at a hoist a HOIST-flagged entry that is not TRACKED. -/
def State.handMoveEnds (s : State) : Bool :=
  match s.role, s.hand.move with
  | .barrier, some .up => s.upLimit
  | .barrier, some .down => s.downLimit
  | .hoist, some .up => s.topLimit || !s.hoistPeersTracked
  | .hoist, some .down => s.seatedInput || !s.hoistPeersTracked
  | _, _ => false

/-- Ends a hand move whose end has come (R125, R126). -/
def State.followHandMove (s : State) : State := if s.handMoveEnds then s.endHandMove else s

end Sys2Proof.Machine
end

