-- ==== Sys2Proof/Machine/LevelControl.lean ====
section
/-!
DEFINITION. Span level control (R94 to R107): the ten stages of the full computation, the skew-only computation, and the
work of one control period expiry.
-/

namespace Sys2Proof.Machine

/-! ### Stages 1 to 6 -/

/-- The extrapolated height of a report at a station time (R97). -/
def extrapolate (now : Time) (receipt : Time) (h : HoistPart) : Nat :=
  let age := min Config.ageLimit (since now receipt)
  (clampInt 0 65535 ((h.height.toNat : Int) + Int.tdiv (h.speed.toInt * age) 1000)).toNat

/-- The extrapolated height of an entry, `none` unless it is TRACKED and its copy carries a hoist part (R14, R97). -/
def PeerEntry.extrapolated (now : Time) (p : PeerEntry) : Option Nat :=
  if p.state == .tracked then
    p.report.bind fun r => r.body.hoist.map fun h => extrapolate now r.receipt h
  else none

/-- The extrapolated heights of the hoist peers (R97). -/
def State.peerHeights (s : State) : List Nat := (s.flagged .hoist).filterMap (·.extrapolated s.clock)

/-- The mean height of all corners, a half rounded upward (R98). -/
def meanHeight (h : Nat) (peers : List Nat) : Nat :=
  let n := 1 + peers.length
  (h + peers.sum + n / 2) / n

/-- The level error, clamped (R98). -/
def levelError (h mean : Nat) : Int := clampInt (-Config.errorLimit) Config.errorLimit ((h : Int) - mean)

/-- The accumulator after an error is added, clamped to its range (R99). -/
def accumulate (a e : Int) : Int := clampInt Config.accumulatorMin Config.accumulatorMax (a + e)

/-- The correction (R100). -/
def correction (kp ki cMax : Nat) (e a : Int) : Int :=
  clampInt (-(cMax : Int)) cMax (Int.tdiv (256 * kp * e + ki * a) 4096)

/-- The travel profile over the distance done and the distance to go (R101). -/
def travelProfile (c : StationConfig) (done go : Nat) : Nat :=
  min c.vFull (min (c.vCreep + c.ramp * done / 1000) (c.vCreep + c.ramp * go / 1000))

/-- The distance between two heights. -/
def distance (a b : Nat) : Nat := (a - b) + (b - a)

/-- The greatest distance of the own height from the extrapolated heights, 0 without hoist peers (R103). -/
def skewOf (h : Nat) (peers : List Nat) : Nat := (peers.map (distance h)).foldl max 0

/-- The work an expiry finds to do (R96). -/
inductive ControlWork where
  | none
  | skewOnly
  | travel (up : Bool)
  | stopping (up : Bool)
  | hand (up : Bool)
  deriving DecidableEq, Repr

/-- The work of an expiry after a valid reading: the first row of R96 that fits. -/
def State.controlWork (s : State) : ControlWork :=
  if s.halted then .none
  else if s.hoistTravel then
    if s.seq.stopping then .stopping (s.doing .raise .forward) else .travel (s.doing .raise .forward)
  else match s.hand.move with
  | some m => .hand (m == .up)
  | Option.none => if s.hoist.handshake != .none then .skewOnly else .none

/-- The profile speed of the sixth stage (R101, R102). -/
def State.profileSpeed (s : State) : ControlWork → Nat
  | .travel up =>
    if s.hoist.seatingStage then s.cfg.vCreep
    else
      travelProfile s.cfg (distance s.level.height s.level.startHeight)
        (if up then s.cfg.hTop - s.level.height else s.level.height - s.cfg.hSeat)
  | .stopping _ => s.level.profile - s.cfg.decel
  | _ => s.cfg.vCreep

/-- The speed reference of the eighth stage: clamped to the direction of travel and to V_max (R105). -/
def speedReference (up : Bool) (vMax profile : Nat) (c : Int) : Int :=
  if up then clampInt 0 vMax ((profile : Int) - c) else clampInt (-(vMax : Int)) 0 (-(profile : Int) - c)

/-! ### Stages 7 to 10 -/

/-- The skew stage alone, on the heights of the hoist peers (R103). -/
def State.formSkew (s : State) (peers : List Nat) : State :=
  let k := skewOf s.level.height peers
  { s with
    level := { s.level with
      skew := some k
      skewFull := s.hoistPeersTracked
      skewWarn := decide (s.cfg.skewWarn < k) } }

/-- The judgements of the end of travel (R107), in the order of its table: the seating stage, overtravel below the seat,
the end of a stop. The completion of RAISE is judged with the other completions at the same event. DESIGN CHOICE:
overtravel below the seat is judged here alone, and not at the beginning of LOWER (R83, R84; log entry 40). -/
def State.endOfTravel (s : State) : State :=
  let s1 : State :=
    if s.doing .raise .inverse && !s.seq.stopping && s.nearSeat then
      { s with hoist := { s.hoist with seatingStage := true } }
    else s
  if s1.doing .raise .inverse && !s1.seatedInput && decide (s1.level.height + s1.cfg.seatBand < s1.cfg.hSeat) then
    s1.raiseCause .overtravel
  else if s1.hoistTravel && s1.seq.stopping && s1.level.profile == 0 then s1.endStep
  else s1

/-- The full computation (R96 to R107): mean, error, accumulator, correction, profile, skew, reference, output and end of
travel. A skew above SKEW_TRIP ends it at the seventh stage (R104). -/
def State.fullComputation (s : State) (w : ControlWork) (up : Bool) : State :=
  let peers := s.peerHeights
  let m := meanHeight s.level.height peers
  let e := levelError s.level.height m
  let a := accumulate s.level.accumulator e
  let c := correction s.cfg.kp s.cfg.ki s.cfg.cMax e a
  let p := s.profileSpeed w
  let s1 : State :=
    { s with
      level := { s.level with
        mean := m
        error := e
        accumulator := a
        sat := s.level.sat || a != s.level.accumulator + e } }
  let s2 := s1.formSkew peers
  if s.cfg.skewTrip < skewOf s.level.height peers then s2.raiseCause .skewTrip
  else
    let p := if s2.level.skewWarn then min p s.cfg.vCreep else p
    let v := speedReference up s.cfg.vMax p c
    ({ s2 with level := { s2.level with profile := p, speedRef := v, line := some v } } : State).endOfTravel

/-- An expiry at which no skew is formed: a reference of 0 is sent, the present skew becomes absent and SKEW_WARN is
removed (R96, R103). -/
def State.noComputation (s : State) : State :=
  { s with level := { s.level with speedRef := 0, line := some 0, skew := none, skewFull := false, skewWarn := false } }

/-- The work of a control period expiry at a HOIST in RUN or HAND (R95, R96). DESIGN CHOICE: an invalid reading leaves the
height that a travel step or hand move starts from at that of the last expiry with a valid one (R101; log entry 14). -/
def State.controlExpiry (s : State) (encoder : Option Word16) : State :=
  match encoder with
  | none => s.noComputation.raiseCause .encoder
  | some h =>
    let s1 : State := { s with level := { s.level with height := h.toNat, expiryHeight := h.toNat } }
    match s1.controlWork with
    | .none => s1.noComputation
    | .skewOnly => ({ s1 with level := { s1.level with speedRef := 0, line := some 0 } } : State).formSkew s1.peerHeights
    | .travel up => s1.fullComputation (.travel up) up
    | .stopping up => s1.fullComputation (.stopping up) up
    | .hand up => s1.fullComputation (.hand up) up

end Sys2Proof.Machine
end

