-- ==== Sys2Proof/Machine/LampControl.lean ====
section
/-!
DEFINITION. The lamp controller: aspects, the command of every output, the flash phase with its reference and
corrections, intensity, and the default pattern (R128 to R141).
-/

namespace Sys2Proof.Machine

/-! ### Aspects -/

/-- The road aspects (R66). -/
inductive RoadAspect where
  | dark
  | amber
  | redFlash
  deriving DecidableEq, Repr

/-- The marine aspects (R90). -/
inductive MarineAspect where
  | red
  | green
  deriving DecidableEq, Repr

/-- The road aspect (R66, R67, R121, R134). -/
def State.roadAspect (s : State) : RoadAspect :=
  match s.role with
  | .signal =>
    if s.signal.recovering then .redFlash
    else if s.halted then if s.seq.journal.isEmpty then .dark else .redFlash
    else if s.seq.journal.isEmpty then .dark
    else if s.seq.journal.any (·.step == .red) then .redFlash
    else .amber
  | .barrier => if s.seq.journal.isEmpty then .dark else .redFlash
  | .hoist => if s.seq.journal.isEmpty then .dark else .redFlash
  | .desk => .dark

/-- The marine aspect (R67, R90, R121, R134). -/
def State.marineAspect (s : State) : MarineAspect :=
  if s.role == .signal && !s.signal.recovering && !s.halted &&
      (s.doing .green .forward || (s.topDone .green && s.seq.step.isNone)) then .green
  else .red

/-! ### Commands -/

/-- STEADY while a condition holds, OFF otherwise. -/
def steadyIf (b : Bool) : Command := if b then .steady else .off

/-- The command an output's function gives it (R135, R136, R137). -/
def State.functionCommand (s : State) : LampFunction → Command
  | .noFunction => .off
  | .roadAmber => steadyIf (s.roadAspect == .amber)
  | .roadRedA => if s.roadAspect == .redFlash then .flashA else .off
  | .roadRedB => if s.roadAspect == .redFlash then .flashB else .off
  | .armLight => if s.role == .barrier && !s.upLimit then .flashA else .off
  | .marineRed => steadyIf (s.marineAspect == .red)
  | .marineGreen => steadyIf (s.marineAspect == .green && s.permissive .hoistsTop)
  | .spanLight => steadyIf (s.role == .hoist && s.phase != .seated)
  | .indAgreed => if s.permissive .agreed then .steady else if s.demand.adopted.isSome then .flashA else .off
  | .indRoadClosed => steadyIf (s.permissive .barriersDown)
  | .indSpanUp => steadyIf (s.permissive .hoistsTop)
  | .indSpanSeated => steadyIf (s.permissive .hoistsSeated)
  | .indHalt => steadyIf s.halted
  | .indPeer => steadyIf s.somePeerUntracked

/-- The command an output's fail-safe map gives it (R140). DESIGN CHOICE: ARM_LIGHT off a BARRIER and SPAN_LIGHT off a
HOIST follow their map like any other output, for the exceptions of R140 do not name them (log entry 32). -/
def StationConfig.failSafeCommand (c : StationConfig) (o : OutputConfig) : Command :=
  match o.function with
  | .noFunction => .off
  | .marineGreen => .off
  | _ => if o.failSafeOne then c.failSafe1 else c.failSafe0

/-- The command of an output in RUN and HAND (R129). -/
def State.outputCommand (s : State) (o : OutputConfig) : Command :=
  if s.bothFailed then s.cfg.failSafeCommand o else s.functionCommand o.function

/-- The station is flash active (R133): some output's command, formed from its function, is a flashing one. The commands
of the default pattern, which stand until the entry into RUN, and those of the fail-safe map do not count. -/
def State.flashActive (s : State) : Bool :=
  s.isRunning && !s.bothFailed && s.cfg.outputs.toList.any (fun o => (s.functionCommand o.function).flashing)

/-! ### Lit outputs -/

/-- The flash phase, 0 while it is absent. -/
def State.flashPhase (s : State) : Nat := s.lamps.phase.getD 0

/-- Whether a command makes an output lit at a phase of a period (R128). -/
def Command.lit (c : Command) (phase period : Nat) : Bool :=
  match c with
  | .off => false
  | .steady => true
  | .flashA => decide (phase < period / 2)
  | .flashB => decide (period / 2 ≤ phase)

/-- Every output's command, lit condition and proving brought up to date with the state (R129, R130, R143, R144). -/
def State.followLamps (s : State) : State :=
  let outputs := Vector.ofFn fun i : Fin 12 =>
    let c := s.cfg.outputs[i]
    let cmd := s.outputCommand c
    s.lamps.outputs[i].follow s.clock s.cfg c cmd
      (cmd.lit s.flashPhase s.cfg.flashPeriod)
  { s with lamps := { s.lamps with outputs := outputs } }

/-- Every output under the default pattern at the present default phase, at duty 255 and unproven (R141); an output that
becomes lit starts a PWM period (R139). -/
def Lamps.followDefault (v : Lamps) : Lamps :=
  { v with
    outputs := Vector.ofFn fun i : Fin 12 =>
      { command := v.pattern
        lit := v.pattern.lit v.defaultPhase Config.defaultPeriod
        pwm := if v.outputs[i].lit then v.outputs[i].pwm else 0 } }

/-- The pattern of the DEFPAT straps (R163). -/
def strapPattern (strap1 strap2 : Bool) : Command :=
  if strap2 then .flashA else if strap1 then .steady else .off

/-! ### Intensity -/

/-- The dim floor used for an output (R138, R168). -/
def StationConfig.floorFor (c : StationConfig) (o : OutputConfig) : Nat :=
  if o.diagnostics then max c.dimFloor 32 else c.dimFloor

/-- The duty of an output at an ambient level (R138). -/
def StationConfig.dutyFor (c : StationConfig) (o : OutputConfig) (a : Nat) : Nat :=
  if !o.dim then 255
  else
    let f := c.floorFor o
    match c.dimCurve with
    | .none => 255
    | .linear => f + (255 - f) * a / 255
    | .square => f + (255 - f) * a * a / 65025

/-- The duty of every output set from an ambient sample (R138); a PWM period in progress keeps the duty it began with
(R139). -/
def State.sampleAmbient (s : State) (a : Byte) : State :=
  let outputs := Vector.ofFn fun i : Fin 12 =>
    { s.lamps.outputs[i] with duty := s.cfg.dutyFor s.cfg.outputs[i] a.toNat }
  { s with lamps := { s.lamps with outputs := outputs } }

/-! ### PWM periods (R139) -/

/-- The PWM frequency in Hz (R139). -/
def StationConfig.pwmFrequency (c : StationConfig) : Nat := 200 * 2 ^ c.pwmCode

/-- The PWM period in µs (R139): 5000, 2500, 1250 or 625. -/
def StationConfig.pwmPeriod (c : StationConfig) : Nat := 5000 / 2 ^ c.pwmCode

/-- The duty in force `u` µs from now, the output staying driven: that of the PWM period in progress, and after its end the
duty in place (R139). -/
def Output.dutyAt (c : StationConfig) (o : Output) (u : Nat) : Nat :=
  if c.pwmPeriod ≤ o.pwm + u then o.dutyInPlace c else o.pwmDuty

/-- The output conducts `u` µs from now, within the present millisecond (R139): driven, and less than its duty's share of
the PWM period past the period's start. -/
def Output.conducts (c : StationConfig) (o : Output) (u : Nat) : Bool :=
  o.driven && decide ((o.pwm + u) % c.pwmPeriod * 255 < o.dutyAt c u * c.pwmPeriod)

/-- One millisecond of the PWM of a driven output; the PWM period it ends in has taken the duty in place if it began
within the millisecond (R139). -/
def Output.tick (c : StationConfig) (o : Output) : Output :=
  if o.driven then { o with pwm := (o.pwm + 1000) % c.pwmPeriod, pwmDuty := o.dutyAt c 1000 } else o

/-! ### The flash phase -/

/-- An entry may be the flash reference (R131). -/
def PeerEntry.mayLead (own : Nat) (p : PeerEntry) : Bool :=
  p.state == .tracked && decide (p.station < own) &&
    match p.copy with
    | some b => b.flashActive
    | none => false

/-- The lowest of a list of station numbers. -/
def lowest : List Nat → Option Nat
  | [] => none
  | n :: ns =>
    match lowest ns with
    | some m => some (min n m)
    | none => some n

/-- The flash reference the entries give (R131). -/
def State.leader (s : State) : Option Nat :=
  lowest ((s.peers.toList.filter (·.mayLead s.own)).map (·.station))

/-- The reference chosen anew; at a change the lock state is set (R131). -/
def State.followReference (s : State) : State :=
  let l := s.leader
  if l == s.lamps.reference then s
  else { s with lamps := { s.lamps with reference := l, lock := if l.isSome then .unlocked else .free } }

/-- The phase difference d of a correction (R132), in -P/2..P/2-1. -/
def phaseDifference (period stamp delay captured : Nat) : Int :=
  let d := Int.emod ((stamp : Int) + delay - captured) period
  if (period : Int) / 2 ≤ d then d - period else d

/-- The correction of the flash phase by an accepted STATUS of the reference (R132). -/
def State.correctPhase (s : State) (stamp captured : Nat) : State :=
  let d := phaseDifference s.cfg.flashPeriod stamp s.cfg.linkDelay captured
  let near := decide (d.natAbs ≤ s.cfg.lockWindow)
  let offset := if near then d else clampInt (-(s.cfg.slew : Int)) s.cfg.slew d
  let phase := (Int.emod ((s.flashPhase : Int) + offset) s.cfg.flashPeriod).toNat
  { s with lamps := { s.lamps with phase := some phase, lock := if near then .locked else .unlocked } }

end Sys2Proof.Machine
end

