-- ==== Sys2Proof/Machine/Flags.lean ====
section
/-!
DEFINITION. What the station shows of itself: the fault set and the HEALTHY line (R150, R173), the drive outputs
(R55, R77), the fields of its STATUS (R158, R173) and its snapshot with the RECORD that carries it (R162, R174).
-/

namespace Sys2Proof.Machine

/-! ### Faults -/

/-- The members of the fault set, in the order of their bits (R173). -/
inductive FaultName where
  | peerConfig
  | dupStation
  | linkA
  | linkB
  | isolated
  | stepTime
  | encoder
  | overtravel
  | skewWarn
  | skewTrip
  | peerLost
  | peerHalt
  | estop
  | lampOpen
  | lampShort
  | detector
  | demandStall
  | demandExhausted
  | operator
  deriving DecidableEq, Repr

/-- Whether a fault is in the fault set (R150). -/
def State.hasFault (s : State) : FaultName → Bool
  | .peerConfig => s.peerConfig
  | .dupStation => s.halt.has .dupStation
  | .linkA => s.linkA.state != .good
  | .linkB => s.linkB.state != .good
  | .isolated => s.halt.has .isolated
  | .stepTime => s.halt.has .stepTime
  | .encoder => s.halt.has .encoder
  | .overtravel => s.halt.has .overtravel
  | .skewWarn => s.level.skewWarn
  | .skewTrip => s.halt.has .skewTrip
  | .peerLost => s.halt.has .peerLost
  | .peerHalt => s.halt.has .peerHalt
  | .estop => s.halt.has .estop
  | .lampOpen => s.lampOpen
  | .lampShort => s.lampShort
  | .detector => s.isRunning && s.detectorFault
  | .demandStall => s.demand.stalled
  | .demandExhausted => s.demand.exhausted
  | .operator => s.halt.has .operator

/-- The faults in the order of their bits (R173). -/
def FaultName.all : List FaultName :=
  [.peerConfig, .dupStation, .linkA, .linkB, .isolated, .stepTime, .encoder, .overtravel, .skewWarn, .skewTrip,
    .peerLost, .peerHalt, .estop, .lampOpen, .lampShort, .detector, .demandStall, .demandExhausted, .operator]

/-- The fault set in the bits of R173. -/
def State.faultSet (s : State) : BitVec 19 := BitVec.ofNat 19 (bitsToNat (FaultName.all.map s.hasFault))

/-- A fault that the lamp fault masks leave out of the judgement of HEALTHY (R149). -/
def State.masked (s : State) : FaultName → Bool
  | .lampOpen => s.cfg.maskOpen
  | .lampShort => s.cfg.maskShort
  | _ => false

/-- The HEALTHY line (R150). -/
def State.healthy (s : State) : Bool :=
  s.isRunning && FaultName.all.all (fun f => !s.hasFault f || s.masked f)

/-! ### Drive outputs -/

/-- ARM_DOWN (R55). -/
def State.armDown (s : State) : Bool :=
  s.isRunning && s.role == .barrier && !s.halted && (s.doing .lower .forward || s.hand.move == some .down)

/-- ARM_UP (R55). -/
def State.armUp (s : State) : Bool :=
  s.isRunning && s.role == .barrier && !s.halted && (s.doing .lower .inverse || s.hand.move == some .up)

/-- LOCK_ON (R55). -/
def State.lockOn (s : State) : Bool :=
  s.isRunning && s.role == .barrier && !s.halted && s.doing .lock .forward

/-- LOCK_OFF (R55). -/
def State.lockOff (s : State) : Bool :=
  s.isRunning && s.role == .barrier && !s.halted && s.doing .lock .inverse

/-- LOCKS_PULL (R77). -/
def State.locksPull (s : State) : Bool :=
  s.isRunning && s.role == .hoist && !s.halted && s.doing .withdraw .forward

/-- LOCKS_PUSH (R77). -/
def State.locksPush (s : State) : Bool :=
  s.isRunning && s.role == .hoist && !s.halted && s.doing .withdraw .inverse

/-- DRIVE_ENABLE (R77, R79). -/
def State.driveEnable (s : State) : Bool :=
  s.isRunning && s.role == .hoist && !s.halted &&
    (s.hoistTravel || (s.doing .withdraw .inverse && s.hoist.driveHeld) || s.hand.move.isSome)

/-- BRAKE_RELEASE (R77). -/
def State.brakeRelease (s : State) : Bool :=
  s.isRunning && s.role == .hoist && !s.halted && (s.hoistTravel || s.hand.move.isSome)

/-- The general outputs GO1..GO8 by role (R170). -/
def State.generalOutputs (s : State) : List Bool :=
  match s.role with
  | .barrier => [s.armDown, s.armUp, s.lockOn, s.lockOff, false, false, false, false]
  | .hoist => [s.locksPull, s.locksPush, s.driveEnable, s.brakeRelease, false, false, false, false]
  | _ => [false, false, false, false, false, false, false, false]

/-! ### The STATUS -/

/-- The height and speed of a hoist part as two bytes each (R173). -/
def State.hoistPart (s : State) : HoistPart :=
  { height := BitVec.ofNat 16 s.level.height, speed := BitVec.ofInt 16 s.level.speedRef, sat := s.level.sat,
    skewWarn := s.level.skewWarn }

/-- The STATUS body the station forms from its state, its stamp left open as 0 (R158, R173). -/
def State.statusBody (s : State) : StatusBody :=
  { role := s.role.code
    hand := s.inHand
    handPending := s.hand.state == .pending
    agreed := s.permissive .agreed
    flashActive := s.flashActive
    phase := phaseCode s.role s.phase
    lock := s.lamps.lock.code
    faults := s.faultSet
    proven := s.provenSet
    stamp := 0
    echo := s.demand.adopted.map fun d =>
      { issuer := byteOf d.issuer, number := BitVec.ofNat 16 d.number, kind := d.kind.code }
    halt :=
      if s.halted then
        some { origin := byteOf (s.halt.firstOrigin.getD 0), reason := (s.halt.firstReason.getD .other).code }
      else none
    hoist := if s.role == .hoist then some s.hoistPart else none
    zone := if s.hasDetectors then some s.zoneReport else none }

/-- The STATUS fields whose change brings a STATUS: all but the height, the speed reference and the stamp (R158). -/
def State.statusFields (s : State) : StatusBody :=
  let b := s.statusBody
  { b with hoist := b.hoist.map fun h => { h with height := 0, speed := 0 } }

/-! ### The snapshot and the RECORD -/

/-- The step field of a snapshot (R52): the step, whether it is the interrupted one, and the supervision time in ms. -/
structure SnapshotStep where
  step : Step
  interrupted : Bool
  elapsed : Nat
  deriving DecidableEq, Repr

/-- The step in progress, or while halted the interrupted step (R52). -/
def State.snapshotStep (s : State) : Option SnapshotStep :=
  match s.stepNow with
  | some st => some { step := st, interrupted := false, elapsed := s.seq.supervision.elapsed s.clock }
  | none =>
    if s.halted then
      s.seq.interrupted.map fun st =>
        { step := st, interrupted := true, elapsed := s.seq.supervision.elapsed s.clock }
    else none

/-- The bytes of a journal entry (R174). -/
def encodeEntry (e : JournalEntry) : List Byte :=
  [byteOf e.step.number, if e.state == .done then 0 else 1] ++ bytes32 e.start

/-- The bytes of the step field (R174). DESIGN CHOICE: a time that is no multiple of 100 ms is written as the number of
whole units of 100 ms that have passed (log entry 31). -/
def encodeStep (x : SnapshotStep) : List Byte :=
  [byteOf x.step.kind.number, if x.step.dir == .forward then 0 else 1] ++ bytes16 (BitVec.ofNat 16 (x.elapsed / 100))

/-- The age of an entry's copy in ms, capped at 65535 (R14, R162). -/
def Report.age (r : Report) (now : Time) : Nat := min 65535 (since now r.receipt)

/-- The bytes of a peer record (R174). -/
def encodePeer (now : Time) (p : PeerEntry) : List Byte :=
  match p.report with
  | some r =>
    [byteOf p.station, p.state.code, byteOf p.deficit, if r.link == .a then 1 else 2, r.body.phase]
      ++ bytes16 (BitVec.ofNat 16 (r.age now))
  | none => [byteOf p.station, p.state.code, byteOf p.deficit, 0, 0xFF] ++ bytes16 0

/-- The bytes of an output record (R174). -/
def encodeOutput (x : OutputConfig × Output) : List Byte :=
  [byteOf x.1.function.code, x.2.proof.code] ++ bytes16 (BitVec.ofNat 16 x.2.lastCurrent) ++ [byteOf x.2.duty]

/-- The entries a snapshot lists: those not VACANT, in slot order (R162). -/
def State.listedPeers (s : State) : List PeerEntry := s.peers.toList.filter (·.state != .vacant)

/-- The level part (R94, R174). DESIGN CHOICE: SAT is written as 1 while it is set and as 0 otherwise (log entry 31). -/
def State.encodeLevel (s : State) : List Byte :=
  bytes16 (BitVec.ofNat 16 s.level.height) ++ bytes16 (BitVec.ofNat 16 s.level.mean)
    ++ bytes16 (BitVec.ofInt 16 s.level.error) ++ bytes32 (BitVec.ofInt 32 s.level.accumulator)
    ++ [if s.level.sat then 1 else 0] ++ bytes16 (BitVec.ofInt 16 s.level.speedRef)

/-- The station and presence parts (R174). -/
def State.encodeStation (s : State) : List Byte :=
  let step := s.snapshotStep
  [s.role.code, if s.inHand then 1 else 0, phaseCode s.role s.phase, if s.cfg.barrierKind == .entry then 0 else 1,
    if s.cfg.approachSouth then 1 else 0,
    byteOfBits [s.role == .hoist, s.hasDetectors, step.isSome, (step.map (·.interrupted)).getD false]]

/-- The hand state codes (R174). -/
def HandState.code : HandState → Byte
  | .off => 0
  | .pending => 1
  | .hand => 2

/-- The halt part (R174). DESIGN CHOICE: the first reason is written as 0 while it is absent (log entry 31). -/
def State.encodeHalt (s : State) : List Byte :=
  bytes32 s.halt.origins ++ [byteOf (s.halt.firstOrigin.getD 0), (s.halt.firstReason.map (·.code)).getD 0]
    ++ bytes16 ((s.halt.live ||| s.halt.latched).setWidth 16)
    ++ [s.hand.state.code]

/-- The demand part (R174). DESIGN CHOICE: the number is written as 0 while no demand is adopted, and agreed as 1
while AGREED is true and as 0 otherwise (log entry 31). -/
def State.encodeDemand (s : State) : List Byte :=
  (match s.demand.adopted with
    | some d => byteOf d.issuer :: bytes16 (BitVec.ofNat 16 d.number) ++ [d.kind.code]
    | none => [0, 0, 0, 0])
    ++ [if s.permissive .agreed then 1 else 0]

/-- The faults and links parts (R174). -/
def State.encodeFaults (s : State) : List Byte :=
  bytes32 (s.faultSet.setWidth 32)
    ++ [s.linkA.state.code, byteOf s.linkA.health, s.linkB.state.code, byteOf s.linkB.health]

/-- The body of a RECORD: the snapshot of the station as it stands (R162, R174). -/
def State.recordBody (s : State) : List Byte :=
  s.encodeStation
    ++ byteOf s.seq.journal.length :: s.seq.journal.reverse.flatMap encodeEntry
    ++ encodePart encodeStep s.snapshotStep
    ++ s.encodeHalt ++ s.encodeDemand ++ s.encodeFaults
    ++ byteOf s.listedPeers.length :: s.listedPeers.flatMap (encodePeer s.clock)
    ++ s.outputPairs.flatMap encodeOutput
    ++ bytes16 (BitVec.ofNat 16 (bitsToNat (s.inputs.toList.map (·.level))))
    ++ (if s.role == .hoist then s.encodeLevel else [])
    ++ (if s.hasDetectors then [s.zoneReport] else [])

end Sys2Proof.Machine
end

