-- ==== Sys2Proof/Machine/Demands.lean ====
section
/-!
DEFINITION. The demand record: order of identities, adoption, received demands, issuing at a desk and the stall
supervision (R22 to R35).
-/

namespace Sys2Proof.Machine

/-- The order of identities (R22): by number, and by issuer where the numbers are equal. -/
def identityGreater (n1 i1 n2 i2 : Nat) : Bool := decide (n2 < n1) || (n1 == n2 && decide (i2 < i1))

/-- A demand's identity is greater than the adopted one; any identity is greater than none (R22). -/
def Demand.exceeds (d : Demand) : Option Demand → Bool
  | some a => identityGreater d.number d.issuer a.number a.issuer
  | none => true

/-- An adoption (R27): the adopted demand takes its new value, DEMAND_STALL and the stall timer are cleared, and a demand
of the other kind than the one held before is a reversal (R34). AGREED, the stall timer's fresh start and the STATUS
follow at the same event. -/
def State.adopt (s : State) (d : Demand) : State :=
  let s1 : State :=
    { s with demand := { s.demand with adopted := some d, stallTimer := .stopped, stalled := false } }
  match s.adoptedKind with
  | some k => if k == d.kind then s1 else s1.stopTravel
  | none => s1

/-- A received demand is adopted when its identity is greater than the adopted one and ignored otherwise (R26). -/
def State.receiveDemand (s : State) (d : Demand) : State := if d.exceeds s.demand.adopted then s.adopt d else s

/-- Whether a number, an issuer and a kind code make a received demand, the issuer a member of the desk set (R24, R25). -/
def State.demandOf (s : State) (issuer number : Nat) (kind : Byte) : Option Demand :=
  match demandKindOf kind with
  | some k =>
    if s.cfg.deskSet.contains issuer && number != 0 then some { number := number, issuer := issuer, kind := k }
    else none
  | none => none

/-- A DEMAND telegram handed on to the demand record (R24). -/
def State.takeDemand (s : State) (sender : Nat) (kind : Byte) (number : Word16) : State :=
  match s.demandOf sender number.toNat kind with
  | some d => s.receiveDemand d
  | none => s

/-- The echo of an accepted STATUS offered to the demand record (R25). -/
def State.takeEcho (s : State) (echo : Option Echo) : State :=
  match echo with
  | some e =>
    match s.demandOf e.issuer.toNat e.number.toNat e.kind with
    | some d => s.receiveDemand d
    | none => s
  | none => s

/-- The number a press would issue (R29). -/
def State.nextNumber (s : State) : Nat :=
  max s.demand.counter ((s.demand.adopted.map (·.number)).getD 0) + 1

/-- A press of OPEN or CLOSE at a desk (R29, R30): ignored for the adopted kind, refused with DEMAND_EXHAUSTED past the
last number, else issued: the counter is set, the demand adopted and a DEMAND telegram formed. -/
def State.pressDemand (s : State) (k : DemandKind) : State :=
  if s.adoptedKind == some k then s
  else if Config.maxDemandNumber < s.nextNumber then { s with demand := { s.demand with exhausted := true } }
  else
    let n := s.nextNumber
    let s1 : State := { s with demand := { s.demand with counter := n } }
    (s1.adopt { number := n, issuer := s.own, kind := k }).formTelegram .demand
      (.demand k.code (BitVec.ofNat 16 n))

/-- A press of HALT at a desk (R118): OPERATOR arises, or if it is latched already a HALT is formed again. -/
def State.pressHalt (s : State) : State :=
  if s.halt.has .operator then s.formHalt (.cause .operator) else s.raiseCause .operator

/-- A press of RESUME at a desk (R118). -/
def State.pressResume (s : State) : State := s.resume.formResume

/-- The stall timer and DEMAND_STALL brought up to date with AGREED (R33): the timer starts when a demand is held without
agreement, and both are cleared when that condition ends. -/
def State.followStall (s : State) : State :=
  if s.demand.adopted.isSome && !s.permissive .agreed then
    if s.demand.stalled || s.demand.stallTimer.isRunning then s
    else { s with demand := { s.demand with stallTimer := s.startTimer (1000 * s.cfg.agreeTime) } }
  else { s with demand := { s.demand with stallTimer := .stopped, stalled := false } }

end Sys2Proof.Machine
end

