-- ==== Sys2Proof/Machine/Links.lean ====
section
/-!
DEFINITION. The link controllers and the STATUS former: health and link state (R159, R160), attempts (R154), the forming
of a STATUS and the change rule (R158).
-/

namespace Sys2Proof.Machine

/-! ### Forming a STATUS -/

/-- Forms a STATUS (R158): the telegram is formed and placed, the zone occupancy flag taken anew (R70), the period and gap
timers restarted; the change-pending flag is cleared, unless taking the flag anew has changed the zone report (R71).
While both links are FAILED no STATUS is formed. -/
def State.formStatus (s : State) : State :=
  if s.bothFailed then s
  else
    let s1 := s.formTelegram .status (.status s.statusBody)
    let s2 : State := { s1 with zoneFlag := s1.zoneOccupied }
    { s2 with
      former := { s2.former with
        period := s.startTimer s.cfg.statusPeriod
        gap := s.startTimer Config.gapTime
        changePending := s.hasDetectors && s2.zoneReport != s.zoneReport } }

/-- The change rule (R158): a changed field forms a STATUS, or sets the change-pending flag while the gap timer runs or
both links are FAILED; the event at which a link returns from isolation forms one. -/
def State.noteChange (s : State) (wasIsolated : Bool) : State :=
  if s.bothFailed || (!wasIsolated && s.former.gap.isRunning) then
    { s with former := { s.former with changePending := true } }
  else s.formStatus

/-! ### Health -/

/-- The link state a health count gives (R160). -/
def LinkState.judge (l : LinkState) (count : Nat) : LinkState :=
  match l with
  | .good => if 12 ≤ count then .failed else if 6 ≤ count then .degraded else .good
  | .degraded => if 12 ≤ count then .failed else if count ≤ 5 then .good else .degraded
  | .failed => if count ≤ 5 then .good else .failed

/-- A controller after a change of its count (R160): on entering FAILED all slots are emptied and the attempt is
abandoned. -/
def LinkController.judge (c : LinkController) (count : Nat) : LinkController :=
  let st := c.state.judge count
  let c1 := { c with state := st, health := count }
  if st == .failed && !c.failed then
    { c1 with haltcmd := none, demand := none, status := none, record := none, attempt := none }
  else c1

/-- The link's count becomes `count` and its state is judged (R160); ISOLATED arises when both links are FAILED and is
removed when either leaves FAILED. -/
def State.setHealth (s : State) (l : Link) (count : Nat) : State :=
  let s1 := s.setLink l ((s.link l).judge count)
  if s1.bothFailed then s1.raiseCause .isolated
  else if s.bothFailed then s1.removeLive .isolated
  else s1

/-- Trouble on a link: the count rises by 2, to no more than 15 (R154, R159). -/
def State.linkTrouble (s : State) (l : Link) : State := s.setHealth l (min 15 ((s.link l).health + 2))

/-- A good telegram on a link: the count falls by 1, to no less than 0 (R154, R159). -/
def State.linkGood (s : State) (l : Link) : State := s.setHealth l ((s.link l).health - 1)

/-- The reception in progress on a link has ended. -/
def State.endReception (s : State) (l : Link) : State := s.setLink l { s.link l with captured := none }

/-- The silence timer of a link restarted (R159). -/
def State.restartSilence (s : State) (l : Link) : State :=
  s.setLink l { s.link l with silence := s.startTimer s.cfg.linkSilence }

/-- A reception may begin or end on the link: RUN or HAND, and the controller is not sending (R152, R159). -/
def State.mayReceive (s : State) (l : Link) : Bool := s.isRunning && (s.link l).attempt.isNone

/-- The own flash phase kept with the reception on a link (R159); the present one where no start was recognized. -/
def State.capturedPhase (s : State) (l : Link) : Nat := ((s.link l).captured).getD s.flashPhase

/-- A valid reception counted for link health (R159). -/
def State.countValid (s : State) (l : Link) : State := ((s.endReception l).restartSilence l).linkGood l

/-! ### Sending -/

/-- The highest-priority non-empty slot (R154). -/
def LinkController.first (c : LinkController) : Option (SlotKind × Telegram) :=
  match c.haltcmd, c.demand, c.status, c.record with
  | some t, _, _, _ => some (.haltcmd, t)
  | none, some t, _, _ => some (.demand, t)
  | none, none, some t, _ => some (.status, t)
  | none, none, none, some t => some (.record, t)
  | none, none, none, none => none

/-- The telegram with the flash phase stamp written, where it is a STATUS (R158). -/
def Telegram.stamped (t : Telegram) (phase : Nat) : Telegram :=
  match t.body with
  | .status b => { t with body := .status { b with stamp := BitVec.ofNat 16 phase } }
  | _ => t

/-- The telegram of the attempt leaves its slot, unless the slot has been filled anew (R154, R155). -/
def LinkController.sent (c : LinkController) (a : Attempt) : LinkController :=
  let c1 : LinkController := { c with attempt := none }
  if a.refilled then c1 else c1.setSlot a.slot none

end Sys2Proof.Machine
end

