-- ==== Sys2Proof/Machine/React.lean ====
section
/-!
DEFINITION. What follows from a change at the same event: the blocks that read the changed state are brought up to date
in a fixed order, and a change of a STATUS field forms a STATUS. Every rule taken here is stated on levels, so that an
event that changes nothing it reads leaves it as it was.
-/

namespace Sys2Proof.Machine

/-- The prewarn hold follows WARN (R56). -/
def State.followPrewarn (s : State) : State :=
  if s.role == .barrier then
    if s.permissive .warn then
      if s.barrier.hold == .absent then
        { s with barrier := { hold := .running, timer := s.startTimer (1000 * s.cfg.tPrewarn) } }
      else s
    else { s with barrier := { hold := .absent, timer := .stopped } }
  else s

/-- The clearance evidence follows its broken condition (R72). -/
def State.followEvidence (s : State) : State :=
  if s.holdsEvidence && !s.evidenceBroken then
    if s.clearance.evidence == .broken then
      { s with clearance := { evidence := .timing, timer := s.startTimer (1000 * s.cfg.tClear) } }
    else s
  else { s with clearance := { evidence := .broken, timer := .stopped } }

/-- The entries of an expected role. -/
def State.entriesOf (s : State) (r : Role) : List PeerEntry :=
  s.peers.toList.filter (fun p => p.state != .vacant && p.role == r)

/-- The journal taken at the end of recovery, newest first (R68). -/
def State.recoveredJournal (s : State) : List JournalEntry :=
  if (s.entriesOf .barrier).all (·.contributes (phaseAmong .barrier [.raised])) then []
  else
    [{ step := .red, state := .done, start := s.clock }, { step := .amber, state := .done, start := s.clock }]

/-- The end of recovery (R68). -/
def State.endRecovery (s : State) : State :=
  { s with
    signal := { s.signal with recovering := false, recoveryTimer := .stopped }
    seq := { s.seq with journal := s.recoveredJournal } }

/-- Recovery ends when every BARRIER and HOIST entry is TRACKED (R68). -/
def State.followRecovery (s : State) : State :=
  if s.inRecovery && (s.entriesOf .barrier).all (·.state == .tracked) && (s.entriesOf .hoist).all (·.state == .tracked)
  then s.endRecovery
  else s

/-- The local causes that a travel step in progress at a hoist meets now: TOP_LIMIT during RAISE (R82), a HOIST-flagged
entry that is not TRACKED (R87), a hoist peer that reports halted or HAND (R88). -/
def State.travelCauses (s : State) : List LocalCause :=
  if s.hoistTravel then
    (if s.doing .raise .forward && s.topLimit then [.overtravel] else [])
      ++ (if !s.hoistPeersTracked then [.peerLost] else [])
      ++ (if s.hoistPeerStopped then [.peerHalt] else [])
  else []

/-- The move that ends or abandons the step in progress, if one is due (R41, R43 to R45): the step is abandoned for
GREEN_OFF, halted by the causes met, completed, or its stop is ended by SEATED. Where a completion and a cause of R82,
R87 or R88 meet at one event, the free choice says which is taken first. The answer's flag marks the completion of a
hoist's LOWER (R79). -/
def State.endMove (s : State) (st : Step) : Option (Bool × State) :=
  let causes := s.travelCauses
  let completed (s : State) := (st == { kind := .raise, dir := .inverse }, s.completeStep st)
  if s.greenLost then some (false, s.endStep.beginStep { kind := .green, dir := .inverse } false)
  else if !causes.isEmpty then
    if s.completionCondition st then
      some (if s.draw.1 then completed s.draw.2 else (false, s.draw.2.raiseCauses causes))
    else some (false, s.raiseCauses causes)
  else if s.completionCondition st then some (completed s)
  else if s.seatedEndsStop then some (false, s.endStep)
  else none

/-- This event is a reversal that found a travel step in progress, and so stopped it (R27, R34). -/
def State.reversalStopped (before after : State) : Bool :=
  before.adoptedKind.isSome && before.adoptedKind != after.adoptedKind && before.stepNow.any (·.isTravel)

/-- The move that begins the candidate, if R40 allows. `held` marks the event of a reversal that stopped a travel step:
the inverse or the re-run of that step is not begun at it, though its start conditions hold (R34); it is begun at the
next event that brings the sequencer up to date, `State.conclude` (log entry 33). -/
def State.beginMove (s : State) (held afterLower : Bool) : Option (Bool × State) :=
  match s.candidate with
  | some st =>
    if s.mayBegin && s.startCondition st && !(held && st.isTravel) then some (false, s.beginStep st afterLower)
    else none
  | none => none

/-- The sequencer's next move, if one is due. -/
def State.nextMove (s : State) (held afterLower : Bool) : Option (Bool × State) :=
  match s.stepNow with
  | some st => s.endMove st
  | none => s.beginMove held afterLower

/-- What is settled before each move: a pending hand request is granted, and the handshake is brought up to date while
no step is in progress (R80, R123). -/
def State.settle (s : State) : State :=
  let s := s.grantHand
  if s.seq.step.isNone then s.followHandshake else s

/-- The sequencer's work at one event (R40, R41, R43 to R45): its moves, one after the other, until none is due.
`held` marks a reversal that stopped a travel step (R34), `afterLower` a candidate begun at the completion of a hoist's
LOWER (R79). -/
def State.advance (held : Bool) : Nat → Bool → State → State
  | 0, _, s => s
  | n + 1, afterLower, s =>
    let s := s.settle
    match s.nextMove held afterLower with
    | some (lowered, s') => State.advance held n lowered s'
    | none => s

/-- The number of sequencer moves that one event can hold, with room to spare: no role's chain of endings and beginnings
is longer. -/
def advanceBound : Nat := 16

/-- Everything that follows from a change at a running station, but for the STATUS (R15, R31, R46, R80, R129). `held`
marks a reversal that stopped a travel step (R34). -/
def State.react (held : Bool) (s : State) : State :=
  let s := s.followReference
  let s := s.followPrewarn
  let s := s.followEvidence
  let s := s.followStall
  let s := s.followRecovery
  let s := State.advance held advanceBound false s
  let s := s.followHandMove
  s.followLamps

/-- The end of an event at a running station: the reactions, and a STATUS when a STATUS field differs from its value
before the event (R158). Events that change nothing the reactions read do not come here: RECEPTION_START, ATTEMPT_BEGIN,
ATTEMPT_LOST_CONTENTION, the period and gap expiries, a raw input change and an ambient sample among them. DESIGN CHOICE:
they do not begin a step held back at a reversal either (R34, R40; log entry 33). -/
def State.conclude (before after : State) : State :=
  let s := after.react (before.reversalStopped after)
  if before.statusFields == s.statusFields then s else s.noteChange before.bothFailed

end Sys2Proof.Machine
end

