-- ==== Sys2Proof/Machine/PeerTable.lean ====
section
/-!
DEFINITION. The peer table: the judgement of a sequence number (R3), what an accepted telegram records (R5), the tracking
rules of each state (R8 to R13), and the delivery of a valid reception in the order of R161.
-/

namespace Sys2Proof.Machine

/-! ### Judgement -/

/-- A sequence number is newer than the last one accepted: 1 to 127 ahead of it, modulo 256 (R3). -/
def newer (last seq : Byte) : Bool := decide (1 ≤ (seq - last).toNat) && decide ((seq - last).toNat ≤ 127)

/-- Whether an entry accepts a telegram of this sequence number (R3); a VACANT slot is offered none (R2). -/
def PeerEntry.accepts (p : PeerEntry) (seq : Byte) : Bool :=
  match p.state with
  | .vacant => false
  | .unknown => true
  | .lost => true
  | _ =>
    match p.lastSeq with
    | some last => newer last seq
    | none => true

/-- The slot that follows a station, slots in order; a VACANT slot follows none (R2, R3). -/
def State.entryOf (s : State) (station : Nat) : Option (Fin 16) :=
  (List.finRange 16).find? (fun i => s.peers[i].state != .vacant && s.peers[i].station == station)

/-! ### Recording and tracking -/

/-- The role a STATUS reports is the expected one (R8); a role code that names no role is another role (R172). -/
def PeerEntry.roleFits (p : PeerEntry) (body : StatusBody) : Bool := roleOf body.role == some p.role

/-- What a STATUS brings besides its body: the end of its reception, the flash phase captured at its start, and its link
(R5). -/
structure Arrival where
  now : Time
  captured : Nat
  link : Link
  deriving DecidableEq, Repr

/-- The recording of an accepted STATUS (R5). -/
def PeerEntry.recorded (p : PeerEntry) (a : Arrival) (seq : Byte) (body : StatusBody) : PeerEntry :=
  { p with
    lastSeq := some seq
    report := some { body := body, receipt := a.now, captured := a.captured, link := a.link } }

/-- An accepted STATUS applied to its entry (R8 to R13); `deadline` is the configured peer deadline. -/
def PeerEntry.takeStatus (p : PeerEntry) (deadline : Nat) (a : Arrival) (seq : Byte) (body : StatusBody) : PeerEntry :=
  let r := p.recorded a seq body
  if p.state == .mismatch || p.state == .vacant then r
  else if !p.roleFits body then { r with state := .mismatch, deadline := .stopped }
  else
    let r := { r with deadline := .running a.now deadline }
    match p.state with
    | .tracked => { r with deficit := p.deficit - 1 }
    | .acquiring => if p.lastSeq.map (· + 1) == some seq then { r with state := .tracked } else r
    | _ => { r with state := .acquiring, deficit := 0 }

/-- An accepted DEMAND, HALT or RESUME applied to its entry: L is set where one is held (R5). A QUERY or RECORD of a
sender with an entry changes nothing in it (log entry 10). -/
def PeerEntry.takeOther (p : PeerEntry) (seq : Byte) (body : TelegramBody) : PeerEntry :=
  match p.state, body with
  | .acquiring, .halt .. | .tracked, .halt .. | .mismatch, .halt .. => { p with lastSeq := some seq }
  | .acquiring, .resume .. | .tracked, .resume .. | .mismatch, .resume .. => { p with lastSeq := some seq }
  | .acquiring, .demand .. | .tracked, .demand .. | .mismatch, .demand .. => { p with lastSeq := some seq }
  | _, _ => p

/-- The expiry of an entry's deadline timer (R10, R12). -/
def PeerEntry.missDeadline (p : PeerEntry) (now : Time) (deadline threshold : Nat) : PeerEntry :=
  match p.state with
  | .tracked =>
    let d := min 7 (p.deficit + 1)
    if threshold ≤ d then { p with state := .lost, lastSeq := none, deficit := d, deadline := .stopped }
    else { p with deficit := d, deadline := .running now deadline }
  | .acquiring => { p with state := .unknown, lastSeq := none, deficit := 0, deadline := .stopped }
  | _ => p

/-- The state with one slot's entry replaced. -/
def State.setPeer (s : State) (i : Fin 16) (p : PeerEntry) : State := { s with peers := s.peers.set i p }

/-- A STATUS accepted by the entry of a slot: recorded and tracked, PEER_CONFIG set at a wrong role (R8), the flash
reference chosen and then the phase corrected if this entry is the reference (R131, R132), and the echo offered to the
demand record if the entry is now TRACKED (R14). -/
def State.acceptStatus (s : State) (i : Fin 16) (l : Link) (captured : Nat) (seq : Byte) (body : StatusBody) : State :=
  let p := s.peers[i].takeStatus s.cfg.peerDeadline { now := s.clock, captured := captured, link := l } seq body
  let s1 := s.setPeer i p
  let s2 : State := ({ s1 with peerConfig := s.peerConfig || !p.roleFits body } : State).followReference
  let s3 := if s2.lamps.reference == some p.station then s2.correctPhase body.stamp.toNat captured else s2
  if p.state == .tracked then s3.takeEcho body.echo else s3

/-! ### Delivery (R161) -/

/-- A QUERY handed on to the snapshot service (R162): taken from station 31 when it names the own number. -/
def State.takeQuery (s : State) (sender target : Nat) : State :=
  if sender == 31 && target == s.own then s.formTelegram .record (.record s.recordBody) else s

/-- A telegram handed on by kind (R161 step 4). -/
def State.handOn (s : State) (sender : Nat) : TelegramBody → State
  | .halt mask reason => s.takeHalt sender mask reason
  | .resume mask => s.takeResume sender mask
  | .demand kind number => s.takeDemand sender kind number
  | .query target => s.takeQuery sender target.toNat
  | .status _ => s
  | .record _ => s

/-- The telegram is malformed (R161 step 1): its sender is 0 or above 31, or a RECORD's length disagrees with its counts
and flags (R174). The other kinds have no malformed body in this form. -/
def telegramMalformed (t : Telegram) : Bool :=
  t.sender.toNat == 0 || decide (31 < t.sender.toNat) ||
    match t.body with
    | .record bytes => bytes.length != recordLength bytes
    | _ => false

/-- A valid reception of a telegram on a link that is not FAILED, judged in the order of R161. -/
def State.deliver (s : State) (l : Link) (captured : Nat) (t : Telegram) : State :=
  if telegramMalformed t then s
  else if t.sender.toNat == s.own then s.raiseCause .dupStation
  else
    match s.entryOf t.sender.toNat with
    | none => s.handOn t.sender.toNat t.body
    | some i =>
      if !s.peers[i].accepts t.seq then s
      else
        match t.body with
        | .status body => s.acceptStatus i l captured t.seq body
        | body => (s.setPeer i (s.peers[i].takeOther t.seq body)).handOn t.sender.toNat body

/-- A valid reception: counted for the link (R159), delivered unless the link was FAILED (R161; log entry 8), and what
follows from it. -/
def State.receive (s : State) (l : Link) (t : Telegram) : State :=
  if s.mayReceive l then
    let counted : State := { s.countValid l with crc := Machine.crc (encodeTelegram t) }
    State.conclude s (if (s.link l).failed then counted else counted.deliver l (s.capturedPhase l) t)
  else s

end Sys2Proof.Machine
end

