-- ==== Sys2Proof/Machine/Image.lean ====
section
/-!
DEFINITION. The configuration image: its fields at their offsets (R175), the seven judgements with the normalizing that
goes before them (R164, R165), and the clamps (R167, R168).
-/

namespace Sys2Proof.Machine

/-! ### Fields (R175) -/

/-- The one-byte field at an offset. -/
def field8 (image : List Byte) (offset : Nat) : Nat := (image.getD offset 0).toNat

/-- The two-byte field at an offset, high byte first (R171). -/
def field16 (image : List Byte) (offset : Nat) : Nat :=
  (word16 (image.getD offset 0) (image.getD (offset + 1) 0)).toNat

/-- The four-byte set at an offset (R171). -/
def fieldMask (image : List Byte) (offset : Nat) : StationMask :=
  word32 (image.getD offset 0) (image.getD (offset + 1) 0) (image.getD (offset + 2) 0) (image.getD (offset + 3) 0)

/-- A station number 1..30, `none` outside that range (R165). -/
def configuredStation (n : Nat) : Option Nat := if 1 ≤ n ∧ n ≤ 30 then some n else none

/-! ### Normalizing (R165, R167) -/

/-- A peer record after normalizing: one that names no station 1..30 or no role is an empty slot (R165). -/
def peerRecord (image : List Byte) (i : Nat) : PeerConfig :=
  match configuredStation (field8 image (22 + 3 * i)), roleOf (image.getD (23 + 3 * i) 0) with
  | some n, some r => { station := n, role := r, flags := (image.getD (24 + 3 * i) 0).setWidth 7 }
  | _, _ => {}

/-- The sixteen peer records after normalizing (R165). -/
def peerRecords (image : List Byte) : Vector PeerConfig 16 := Vector.ofFn fun i : Fin 16 => peerRecord image i

/-- The desk set after normalizing (R165). -/
def deskSetOf (image : List Byte) : List Nat :=
  ((configuredStation (field8 image 20)).toList ++ (configuredStation (field8 image 21)).toList).eraseDups

/-- The barrier kind; an unknown kind is EXIT (R165, R167). -/
def barrierKindOf (code : Nat) : BarrierKind := if code = 0 then .entry else .exit

/-- The halt mask, less the bits that name no station 1..30 (R167). -/
def haltMaskOf (image : List Byte) : StationMask := fieldMask image 16 &&& 0x7FFFFFFE

/-! ### Judgements (R164) -/

/-- The flags a role requires among its peer records (R165). -/
def requiredFlags (role : Role) (kind : BarrierKind) : List DepFlag :=
  match role, kind with
  | .barrier, .entry => [.agree, .roadWarn, .hoist]
  | .barrier, .exit => [.agree, .roadWarn, .hoist, .entry, .detect]
  | .hoist, _ => [.agree, .barrier, .detect, .marine]
  | .signal, _ => [.agree, .barrier, .hoist]
  | .desk, _ => []

/-- The stations of the peer records that are left. -/
def peerStations (records : Vector PeerConfig 16) : List Nat :=
  (records.toList.map (·.station)).filter (· != 0)

/-- No number stands twice in a list. -/
def distinct : List Nat → Bool
  | [] => true
  | n :: ns => !ns.contains n && distinct ns

/-- Judgement 6: no duplicate station number and none equal to the own number (R164). -/
def peersFit (own : Nat) (records : Vector PeerConfig 16) : Bool :=
  distinct (peerStations records) && !(peerStations records).contains own

/-- Judgement 7: every required flag is carried by some record that is left (R164, R165). -/
def flagsPresent (role : Role) (kind : BarrierKind) (records : Vector PeerConfig 16) : Bool :=
  (requiredFlags role kind).all fun f =>
    records.toList.any (fun r => r.station != 0 && r.flags.getLsbD f.bit)

/-- The check computed over bytes 0..253 of the image (R153, R164). -/
def imageCheck (image : List Byte) : BitVec 16 := crc (image.take 254)

/-- Judgements 2 to 7 (R164). -/
def imageAccepted (image : List Byte) : Bool :=
  (imageCheck image).toNat == field16 image 254
    && field16 image 0 == Config.formatTag
    && (configuredStation (field8 image 2)).isSome
    && match roleOf (image.getD 3 0) with
      | some role =>
        peersFit (field8 image 2) (peerRecords image)
          && flagsPresent role (barrierKindOf (field8 image 4)) (peerRecords image)
      | none => false

/-! ### Clamping (R167, R168) -/

/-- The link rate in kbit/s of its code (R167, R175). -/
def linkRateOf (code : Nat) : Nat :=
  match code with
  | 0 => 125
  | 1 => 250
  | _ => 500

/-- A field that selects a default by 0, and is clamped otherwise (R167). -/
def clampOrDefault (default lo hi x : Nat) : Nat := if x = 0 then default else clampNat lo hi x

/-- A pattern of its code; a code beyond the last is FLASH_B (R167). -/
def patternOf (code : Nat) : Command :=
  match code with
  | 0 => .off
  | 1 => .steady
  | 2 => .flashA
  | _ => .flashB

/-- The dim curve of its code; a code beyond the last is SQUARE (R167). -/
def dimCurveOf (code : Nat) : DimCurve :=
  match code with
  | 0 => .none
  | 1 => .linear
  | _ => .square

/-- An output record's configuration (R175). -/
def outputRecord (image : List Byte) (i : Nat) : OutputConfig :=
  let options := image.getD (114 + 2 * i) 0
  { function := lampFunctionOf (field8 image (113 + 2 * i))
    diagnostics := options.getLsbD 0
    thresholdOne := options.getLsbD 1
    failSafeOne := options.getLsbD 2
    dim := options.getLsbD 3 }

/-- The flash period: clamped, then rounded down to an even value (R167, R168). -/
def flashPeriodOf (x : Nat) : Nat := 2 * (clampNat 600 1500 x / 2)

/-- The loaded and clamped configuration of an accepted image of a role (R167, R168). -/
def configOf (role : Role) (image : List Byte) : StationConfig :=
  let vMax := clampNat 1 600 (field16 image 86)
  let vFull := clampNat 1 vMax (field16 image 88)
  let skewWarn := clampNat 5 500 (field16 image 105)
  { station := field8 image 2
    role := role
    barrierKind := barrierKindOf (field8 image 4)
    approachSouth := field8 image 5 != 0
    linkRate := linkRateOf (field8 image 6)
    statusPeriod := clampOrDefault 50 20 200 (field8 image 7)
    peerDeadline := clampNat 30 1000 (field16 image 8)
    lostThreshold := clampOrDefault 3 2 7 (field8 image 10)
    linkSilence := clampNat 50 2000 (field16 image 11)
    linkDelay := clampNat 0 15 (field8 image 13)
    debounce := clampNat 5 100 (field8 image 14)
    detectorMask := (image.getD 15 0).setWidth 4
    haltMask := haltMaskOf image
    deskSet := deskSetOf image
    peers := peerRecords image
    stepLimits := Vector.ofFn fun i : Fin 6 => clampNat 1 2550 (field16 image (70 + 2 * i))
    tAmber := clampNat 1 30 (field8 image 82)
    tPrewarn := clampNat 1 60 (field8 image 83)
    tClear := clampNat 1 60 (field8 image 84)
    agreeTime := clampNat 1 60 (field8 image 85)
    vMax := vMax
    vFull := vFull
    vCreep := clampNat 1 vFull (field16 image 90)
    ramp := clampNat 1 1000 (field16 image 92)
    decel := clampNat 1 100 (field8 image 94)
    kp := field8 image 95
    ki := field8 image 96
    cMax := clampNat 0 200 (field8 image 97)
    hTop := clampNat 1000 65000 (field16 image 98)
    hSeat := clampNat 0 500 (field16 image 100)
    stopBand := clampNat 1 50 (field8 image 102)
    seatBand := clampNat 10 1000 (field16 image 103)
    skewWarn := skewWarn
    skewTrip := clampNat (skewWarn + 1) 1000 (field16 image 107)
    flashPeriod := flashPeriodOf (field16 image 109)
    lockWindow := clampNat 2 50 (field8 image 111)
    slew := clampNat 5 200 (field8 image 112)
    outputs := Vector.ofFn fun i : Fin 12 => outputRecord image i
    minProven := Vector.ofFn fun i : Fin 7 => clampNat 1 4 (field8 image (137 + i))
    openThreshold := clampNat 0 2000 (field16 image 144)
    threshold0 := clampNat 0 2000 (field16 image 146)
    threshold1 := clampNat 0 2000 (field16 image 148)
    blankingCode := clampNat 0 7 (field8 image 150)
    retryTime := clampNat 1 60 (field8 image 151)
    retryDuty := clampNat 32 255 (field8 image 152)
    failSafe0 := patternOf (field8 image 153)
    failSafe1 := patternOf (field8 image 154)
    dimFloor := field8 image 155
    dimCurve := dimCurveOf (field8 image 156)
    pwmCode := clampNat 0 3 (field8 image 157)
    maskOpen := (image.getD 158 0).getLsbD 0
    maskShort := (image.getD 158 0).getLsbD 1 }

/-- The image judged and loaded: `none` when a judgement fails (R164). -/
def loadImage (image : List Byte) : Option StationConfig :=
  if imageAccepted image then (roleOf (image.getD 3 0)).map (fun role => configOf role image) else none

end Sys2Proof.Machine
end

