-- ==== Sys2Proof/Machine/StartUp.lean ====
section
/-!
DEFINITION. Reset, the reading of the image and the entry into RUN (R163, R164, R166, R169), with the meanings of
POWER_ON, RST_ASSERT, RST_RELEASE, IMAGE_READ_END, IMAGE_READ_TIMEOUT and START_TIMER_EXPIRY.
-/

namespace Sys2Proof.Machine

/-- What a command answers: every command of the block leaves a next state. -/
abbrev Answer := Host.Outcome State Fault Refusal

/-! ### Reset -/

/-- Every block at its reset values, held in reset (R163). The levels on the general input lines are outside the part and
stand as they are; so do the queue and the count of free choices, which are the model's (log entry 1). -/
def State.inReset (s : State) : State :=
  { stage := .inReset
    inputs := Vector.ofFn fun i : Fin 16 => { raw := s.inputs[i].raw }
    drawn := s.drawn
    pending := s.pending }

/-- STARTING entered from reset (R163): the straps read, the default phase, the control period timer and the read
started. -/
def State.startUp (s : State) (strap1 strap2 : Bool) : State :=
  { s.inReset with
    stage := .starting
    loader := { read := .running 0 Config.readTime }
    level := { timer := .running 0 Config.controlPeriod }
    lamps := ({ pattern := strapPattern strap1 strap2 } : Lamps).followDefault }

/-- POWER_ON (R163). DESIGN CHOICE: a power-on while the RST line is held active enters STARTING at once, and the
release of the line that follows finds a part that is not in reset (log entry 35). -/
def execPowerOn (strap1 strap2 : Bool) (s : State) : Answer := .next (s.startUp strap1 strap2)

/-- RST_ASSERT (R163): the part is held in reset; a read in progress is abandoned. -/
def execRstAssert (s : State) : Answer := .next s.inReset

/-- RST_RELEASE (R163): of a part held in reset. -/
def execRstRelease (strap1 strap2 : Bool) (s : State) : Answer :=
  .next (if s.stage == .inReset then s.startUp strap1 strap2 else s)

/-! ### The read of the image -/

/-- The loader reads the image. -/
def State.reading (s : State) : Bool := s.stage == .starting && s.loader.read.isRunning

/-- The time the read has taken. -/
def State.readTook (s : State) : Nat :=
  match s.loader.read with
  | .running start _ => since s.clock start
  | .stopped => 0

/-- The load ends in CONFIG_FAULT (R166). -/
def State.failLoad (s : State) : State := { s with stage := .configFault, loader := {} }

/-- An accepted image (R169): the configuration is loaded, the debouncing of the inputs begins with every candidate at
its raw level, and the start timer is started. -/
def State.acceptImage (s : State) (c : StationConfig) : State :=
  { s with
    cfg := c
    loader := { start := s.startTimer c.debounce }
    inputs := Vector.ofFn fun i : Fin 16 =>
      { raw := s.inputs[i].raw, candidate := s.inputs[i].raw, level := false, timer := s.startTimer c.debounce } }

/-- The image judged at the end of the read (R164). -/
def State.judgeImage (s : State) (image : List Byte) : State :=
  let s1 : State := { s with crc := imageCheck image }
  match loadImage image with
  | some c => s1.acceptImage c
  | none => s1.failLoad

/-- IMAGE_READ_END (R164): an unacknowledged read, or one that took more than 100 ms, has no response; another one is
judged. A read ends with 256 bytes. -/
def execImageReadEnd (response : Option (List Byte)) (s : State) : Answer :=
  .next <|
    if s.reading then
      match response with
      | none => s.failLoad
      | some image =>
        if image.length != 256 then s
        else if Config.readTime < s.readTook then s.failLoad
        else s.judgeImage image
    else s

/-- IMAGE_READ_TIMEOUT (R164). -/
def execImageReadTimeout (s : State) : Answer :=
  .next (if s.reading && s.loader.read.due s.clock then s.failLoad else s)

/-! ### The entry into RUN (R169) -/

/-- A slot filled from its peer record (R2). -/
def PeerConfig.entry (c : PeerConfig) : PeerEntry :=
  if c.station == 0 then {} else { station := c.station, role := c.role, flags := c.flags, state := .unknown }

/-- The peer table filled from the configuration (R2). -/
def State.fillPeers (s : State) : State :=
  { s with peers := Vector.ofFn fun i : Fin 16 => s.cfg.peers[i].entry }

/-- The field inputs at the entry into RUN: every debounced level takes its candidate, the debounce timers run on (R169),
and the zone occupancy flag is taken (R70). -/
def State.takeInputs (s : State) : State :=
  let s1 : State :=
    { s with inputs := Vector.ofFn fun i : Fin 16 => { s.inputs[i] with level := s.inputs[i].candidate } }
  { s1 with zoneFlag := s1.zoneOccupied }

/-- The lamp controller at the entry into RUN: φ set from the station time (R130), the ambient level sampled (R138), the
outputs freed from the default pattern (R129). -/
def State.freeLamps (s : State) (ambient : Byte) : State :=
  let s1 : State :=
    { s with
      lamps := { s.lamps with
        outputs := Vector.replicate 12 {}
        phase := some (s.clock.toNat % s.cfg.flashPeriod)
        ambientTimer := s.startTimer Config.ambientPeriod } }
  s1.sampleAmbient ambient

/-- The sequencer and the level controller at the entry into RUN (R47 to R49, R61, R94): a rebuild at a BARRIER or HOIST,
the recovery timer at a SIGNAL; no control period runs at another role than HOIST. -/
def State.startRole (s : State) (encoder : Option Word16) : State :=
  let s1 := s.rebuild encoder
  match s.role with
  | .hoist => { s1 with level := { s1.level with expiryHeight := s1.level.height } }
  | .signal =>
    { s1 with signal := { s1.signal with recoveryTimer := s.startTimer Config.recoveryTime },
              level := { s1.level with timer := .stopped, line := none } }
  | _ => { s1 with level := { s1.level with timer := .stopped, line := none } }

/-- The causes found at the entry into RUN: an active ESTOP (R113), an invalid reading at a hoist's rebuild (R48). -/
def State.startCauses (s : State) (encoder : Option Word16) : List LocalCause :=
  (if s.estopInput then [.estop] else []) ++ (if s.role == .hoist && encoder.isNone then [.encoder] else [])

/-- An active HAND_KEY taken at the entry into RUN (R123). -/
def State.startKey (s : State) : State := if s.role.hasHandPanel && s.handKey then s.keyActive else s

/-- The entry into RUN (R169): every block by its own rule, then the first STATUS (R158). DESIGN CHOICE: of the inputs
whose debounced level is first active here, ESTOP and HAND_KEY are taken as becoming active (R113, R123) and a button is
not: no press and no hand move begins (log entry 37). -/
def State.enterRun (s : State) (encoder : Option Word16) (ambient : Byte) : State :=
  let s1 : State := { s with stage := .running, loader := {} }
  let s2 := (((s1.takeInputs).fillPeers).freeLamps ambient).startRole encoder
  let s3 := (s2.restartSilence .a).restartSilence .b
  (((s3.raiseCauses (s3.startCauses encoder)).startKey).react false).formStatus

/-- START_TIMER_EXPIRY (R169). -/
def execStartTimerExpiry (encoder : Option Word16) (ambient : Byte) (s : State) : Answer :=
  .next (if s.stage == .starting && s.loader.start.due s.clock then s.enterRun encoder ambient else s)

end Sys2Proof.Machine
end

