-- ==== Sys2Proof/Machine/FieldInputs.lean ====
section
/-!
DEFINITION. The field input block (R169, R170): the meanings of RAW_INPUT_CHANGE and DEBOUNCE_EXPIRY, with what each
recognized input does at its role.
-/

namespace Sys2Proof.Machine

/-- The inputs are debounced: from the acceptance of the image onward (R169). -/
def State.debouncing (s : State) : Bool := s.isRunning || (s.stage == .starting && s.loader.start.isRunning)

/-- The state with one input line replaced. -/
def State.setInput (s : State) (i : Fin 16) (x : InputLine) : State := { s with inputs := s.inputs.set i x }

/-- RAW_INPUT_CHANGE (R169): a changed level becomes the candidate and restarts the debounce timer, once debouncing has
begun. -/
def execRawInputChange (line : Fin 16) (level : Bool) (s : State) : Answer :=
  let x := s.inputs[line]
  .next <|
    if x.raw == level then s
    else if s.debouncing then
      s.setInput line { x with raw := level, candidate := level, timer := s.startTimer s.cfg.debounce }
    else s.setInput line { x with raw := level }

/-- A detector input recognized as changed: the zone occupancy flag is set when an enabled detector becomes occupied
(R70). -/
def State.detectorChanged (s : State) (i : Nat) (active : Bool) : State :=
  if active && s.detectorEnabled i then { s with zoneFlag := true } else s

/-- HAND_UP, HAND_DOWN, OPEN or CLOSE recognized as changed (R29, R125, R126). -/
def State.buttonChanged (s : State) (m : HandMove) (k : DemandKind) (active : Bool) : State :=
  match s.role with
  | .desk => if active then s.pressDemand k else s
  | .signal => s
  | _ => s.handButtonChanged m active

/-- An input recognized as changed (R170): what its line does at the role. The inputs read as levels take their effect in
the reactions of the event. -/
def State.inputChanged (s : State) (line : Fin 16) (active : Bool) (encoder : Option Word16) : State :=
  match line.val with
  | 0 => if active then s.raiseCause .estop else s.removeLive .estop
  | 1 => if s.role.hasHandPanel then if active then s.keyActive else s.keyInactive encoder else s
  | 2 => s.buttonChanged .up .openBridge active
  | 3 => s.buttonChanged .down .closeBridge active
  | 4 => if s.role == .desk && active then s.pressHalt else s
  | 5 => if s.role == .desk && active then s.pressResume else s
  | 8 => s.detectorChanged 0 active
  | 9 => s.detectorChanged 1 active
  | 10 => s.detectorChanged 2 active
  | 11 => s.detectorChanged 3 active
  | _ => s

/-- DEBOUNCE_EXPIRY (R169): the debounced level takes the candidate; a changed input is recognized in RUN and HAND. In
STARTING the debounced level stays inactive until the entry into RUN (R163; log entry 26). -/
def execDebounceExpiry (line : Fin 16) (encoder : Option Word16) (s : State) : Answer :=
  let x := s.inputs[line]
  .next <|
    if s.debouncing && x.timer.due s.clock then
      if s.isRunning then
        let s1 := s.setInput line { x with level := x.candidate, timer := .stopped }
        if x.level == x.candidate then s1 else State.conclude s (s1.inputChanged line x.candidate encoder)
      else s.setInput line { x with timer := .stopped }
    else s

end Sys2Proof.Machine
end

