-- ==== Sys2Proof/Machine/Reception.lean ====
section
/-!
DEFINITION. Receiving (R159, R161): the meanings of RECEPTION_START, of the receptions that are not delivered, and of the
six kinds of telegram.
-/

namespace Sys2Proof.Machine

/-- RECEPTION_START (R159): the own flash phase is taken and kept with the telegram. -/
def execReceptionStart (link : Link) (s : State) : Answer :=
  .next (if s.mayReceive link then s.setLink link { s.link link with captured := some s.flashPhase } else s)

/-- A reception that ends in trouble: it ends, the health count rises by 2, the silence timer stays as it is (R159). -/
def State.troubledReception (s : State) (l : Link) : State :=
  if s.mayReceive l then State.conclude s ((s.endReception l).linkTrouble l) else s

/-- A whole telegram of these bytes, its check computed over the bytes as received (R153). -/
def State.checked (s : State) (bytes : List Byte) : State := { s with crc := Machine.crc (beforeCheck bytes) }

/-- A valid reception that is counted and then discarded (R159, R161). -/
def State.countedReception (s : State) (l : Link) (bytes : List Byte) : State :=
  if s.mayReceive l then State.conclude s ((s.countValid l).checked bytes) else s

/-- BAD_CHECK_RECEPTION (R159): these bytes are a whole telegram whose check does not pass. -/
def execBadCheckReception (link : Link) (bytes : List Byte) (s : State) : Answer :=
  .next (if judgeReception bytes == .badCheck && s.mayReceive link then (s.checked bytes).troubledReception link else s)

/-- FRAMING_ERROR (R159). -/
def execFramingError (link : Link) (_bytes : List Byte) (s : State) : Answer := .next (s.troubledReception link)

/-- FAILED_LINK_RECEPTION (R161): a valid reception on a FAILED link, well formed or not, is counted and discarded. -/
def execFailedLinkReception (link : Link) (bytes : List Byte) (s : State) : Answer :=
  .next <|
    if (s.link link).failed then
      match judgeReception bytes with
      | .valid _ => s.countedReception link bytes
      | .malformed => s.countedReception link bytes
      | _ => s
    else s

/-- MALFORMED_TELEGRAM (R161 step 1). -/
def execMalformedTelegram (link : Link) (bytes : List Byte) (s : State) : Answer :=
  .next (if judgeReception bytes == .malformed then s.countedReception link bytes else s)

/-- OWN_NUMBER_TELEGRAM (R161 step 2): the reception of a telegram whose sender is the own number. -/
def execOwnNumberTelegram (link : Link) (bytes : List Byte) (s : State) : Answer :=
  .next <|
    match judgeReception bytes with
    | .valid t => if t.sender.toNat == s.own then s.receive link t else s
    | _ => s

/-- STATUS_RECEIVED (R5, R161). -/
def execStatusReceived (link : Link) (sender seq : Byte) (body : StatusBody) (s : State) : Answer :=
  .next (s.receive link { sender := sender, seq := seq, body := .status body })

/-- DEMAND_RECEIVED (R24, R161). -/
def execDemandReceived (link : Link) (sender seq kind : Byte) (number : Word16) (s : State) : Answer :=
  .next (s.receive link { sender := sender, seq := seq, body := .demand kind number })

/-- HALT_RECEIVED (R115, R161). -/
def execHaltReceived (link : Link) (sender seq : Byte) (mask : StationMask) (reason : Byte) (s : State) : Answer :=
  .next (s.receive link { sender := sender, seq := seq, body := .halt mask reason })

/-- RESUME_RECEIVED (R116, R161). -/
def execResumeReceived (link : Link) (sender seq : Byte) (mask : StationMask) (s : State) : Answer :=
  .next (s.receive link { sender := sender, seq := seq, body := .resume mask })

/-- QUERY_RECEIVED (R161, R162). -/
def execQueryReceived (link : Link) (sender seq target : Byte) (s : State) : Answer :=
  .next (s.receive link { sender := sender, seq := seq, body := .query target })

/-- RECORD_RECEIVED (R161): counted and discarded. -/
def execRecordReceived (link : Link) (sender seq : Byte) (bytes : List Byte) (s : State) : Answer :=
  .next (s.receive link { sender := sender, seq := seq, body := .record bytes })

end Sys2Proof.Machine
end

