-- ==== Sys2Proof/Machine/Sending.lean ====
section
/-!
DEFINITION. Sending (R154, R155), the silence timers (R159) and the STATUS former's timers (R158): the meanings of the
four ATTEMPT commands, SILENCE_TIMER_EXPIRY, STATUS_PERIOD_EXPIRY and GAP_TIMER_EXPIRY.
-/

namespace Sys2Proof.Machine

/-- The link may begin an attempt when it becomes idle (R154): RUN or HAND, not FAILED, nothing being sent or
received. -/
def State.maySend (s : State) (l : Link) : Bool :=
  s.isRunning && !(s.link l).failed && (s.link l).attempt.isNone && (s.link l).captured.isNone

/-- ATTEMPT_BEGIN (R154, R158): the telegram of the highest-priority slot, a STATUS stamped with φ, its check computed
anew (R153). -/
def execAttemptBegin (link : Link) (s : State) : Answer :=
  .next <|
    match (s.link link).first with
    | some (k, t) =>
      if s.maySend link then
        let sent := Telegram.stamped t s.flashPhase
        let a : Attempt := { telegram := sent, slot := k, refilled := false, phase := s.flashPhase }
        { s.setLink link { s.link link with attempt := some a } with crc := Machine.crc (encodeTelegram sent) }
      else s
    | none => s

/-- The attempt running on a link, in RUN or HAND (R154). -/
def State.attemptOn (s : State) (l : Link) : Option Attempt := if s.isRunning then (s.link l).attempt else none

/-- ATTEMPT_SENT (R154): the telegram sent leaves its slot unless that has been filled anew (R155), and the health count
falls by 1. -/
def execAttemptSent (link : Link) (s : State) : Answer :=
  .next <|
    match s.attemptOn link with
    | some a => State.conclude s ((s.setLink link ((s.link link).sent a)).linkGood link)
    | none => s

/-- ATTEMPT_LOST_CONTENTION (R154, R159): the slot is kept; the winning telegram is being received since the attempt
began. -/
def execAttemptLostContention (link : Link) (s : State) : Answer :=
  .next <|
    match s.attemptOn link with
    | some a => s.setLink link { s.link link with attempt := none, captured := some a.phase }
    | none => s

/-- ATTEMPT_DAMAGED (R154): the slot is kept, and the health count rises by 2. -/
def execAttemptDamaged (link : Link) (s : State) : Answer :=
  .next <|
    match s.attemptOn link with
    | some _ => State.conclude s ((s.setLink link { s.link link with attempt := none }).linkTrouble link)
    | none => s

/-- SILENCE_TIMER_EXPIRY (R159): the count rises by 2 and the timer is restarted. -/
def execSilenceTimerExpiry (link : Link) (s : State) : Answer :=
  .next <|
    if s.isRunning && (s.link link).silence.due s.clock then
      State.conclude s ((s.restartSilence link).linkTrouble link)
    else s

/-- STATUS_PERIOD_EXPIRY (R158): a STATUS is formed; while both links are FAILED none is, and the timer stays stopped
until one is (log entry 25). -/
def execStatusPeriodExpiry (s : State) : Answer :=
  .next <|
    if s.isRunning && s.former.period.due s.clock then
      ({ s with former := { s.former with period := .stopped } } : State).formStatus
    else s

/-- GAP_TIMER_EXPIRY (R158): a STATUS is formed if the change-pending flag is set. -/
def execGapTimerExpiry (s : State) : Answer :=
  .next <|
    if s.isRunning && s.former.gap.due s.clock then
      let s1 : State := { s with former := { s.former with gap := .stopped } }
      if s.former.changePending then s1.formStatus else s1
    else s

end Sys2Proof.Machine
end

