-- ==== Sys2Proof/Machine/Expiries.lean ====
section
/-!
DEFINITION. The timers of the peer table, the demand record, the sequencer and the level controller: the meanings of
DEADLINE_EXPIRY, STALL_TIMER_EXPIRY, SUPERVISION_EXPIRY, PREWARN_TIMER_EXPIRY, T_CLEAR_EXPIRY, AMBER_TIMER_EXPIRY,
RECOVERY_TIMER_EXPIRY and CONTROL_PERIOD_EXPIRY. An expiry of a timer that is not due leaves the state as it is (log
entry 5).
-/

namespace Sys2Proof.Machine

/-- DEADLINE_EXPIRY (R10, R12). -/
def execDeadlineExpiry (slot : Fin 16) (s : State) : Answer :=
  let p := s.peers[slot]
  .next <|
    if s.isRunning && p.deadline.due s.clock then
      State.conclude s (s.setPeer slot (p.missDeadline s.clock s.cfg.peerDeadline s.cfg.lostThreshold))
    else s

/-- STALL_TIMER_EXPIRY (R33). -/
def execStallTimerExpiry (s : State) : Answer :=
  .next <|
    if s.isRunning && s.demand.stallTimer.due s.clock then
      State.conclude s { s with demand := { s.demand with stallTimer := .stopped, stalled := true } }
    else s

/-- SUPERVISION_EXPIRY (R42): the step ends without completion, and STEP_TIME arises. -/
def execSupervisionExpiry (s : State) : Answer :=
  .next <|
    if s.isRunning && s.seq.supervision.due s.clock then State.conclude s (s.endStep.raiseCause .stepTime) else s

/-- PREWARN_TIMER_EXPIRY (R56). -/
def execPrewarnTimerExpiry (s : State) : Answer :=
  .next <|
    if s.isRunning && s.barrier.timer.due s.clock then
      State.conclude s { s with barrier := { hold := .complete, timer := .stopped } }
    else s

/-- T_CLEAR_EXPIRY (R72). -/
def execTClearExpiry (s : State) : Answer :=
  .next <|
    if s.isRunning && s.clearance.timer.due s.clock then
      State.conclude s { s with clearance := { evidence := .proven, timer := .stopped } }
    else s

/-- AMBER_TIMER_EXPIRY (R63): AMBER completes; RED begins at the same event where R40 allows. -/
def execAmberTimerExpiry (s : State) : Answer :=
  .next <|
    if s.isRunning && s.signal.amberTimer.due s.clock && s.doing .amber .forward then
      State.conclude s (s.completeStep { kind := .amber, dir := .forward })
    else s

/-- RECOVERY_TIMER_EXPIRY (R68). -/
def execRecoveryTimerExpiry (s : State) : Answer :=
  .next <|
    if s.isRunning && s.inRecovery && s.signal.recoveryTimer.due s.clock then State.conclude s s.endRecovery else s

/-- The control period timer restarted from the instant it was due (R95). -/
def State.nextControlPeriod (s : State) : State := { s with level := { s.level with timer := s.level.timer.nextBeat } }

/-- CONTROL_PERIOD_EXPIRY (R95, R96): a reference of 0 is sent in STARTING and CONFIG_FAULT; in RUN and HAND a hoist
reads its encoder and does the work of R96. -/
def execControlPeriodExpiry (encoder : Option Word16) (s : State) : Answer :=
  .next <|
    if s.level.timer.due s.clock then
      let s1 := s.nextControlPeriod
      match s.stage with
      | .inReset => s
      | .running => if s.role == .hoist then State.conclude s (s1.controlExpiry encoder) else s
      | _ => { s1 with level := { s1.level with line := some 0 } }
    else s

end Sys2Proof.Machine
end

