-- ==== Sys2Proof/Machine/LampEvents.lean ====
section
/-!
DEFINITION. The events of the lamp controller and the proving monitor: the meanings of CHECK_TIMER_EXPIRY,
RETRY_TIMER_EXPIRY, AMBIENT_SAMPLE, FLASH_HALF_BOUNDARY and DEFAULT_PHASE_BOUNDARY.
-/

namespace Sys2Proof.Machine

/-- The state with one output record replaced. -/
def State.setOutput (s : State) (i : Fin 12) (o : Output) : State :=
  { s with lamps := { s.lamps with outputs := s.lamps.outputs.set i o } }

/-- A check of an output at the current read (R145), or its retry check while it is driven for one (R147). -/
def State.checkOutput (s : State) (i : Fin 12) (current : Nat) : State :=
  let o := s.lamps.outputs[i]
  s.setOutput i
    (if o.retrying then o.retryCheck s.clock s.cfg s.cfg.outputs[i] current
     else o.check_ s.clock s.cfg s.cfg.outputs[i] current)

/-- CHECK_TIMER_EXPIRY (R144, R145, R147). -/
def execCheckTimerExpiry (output : Fin 12) (current : Fin 2001) (s : State) : Answer :=
  .next <|
    if s.isRunning && s.lamps.outputs[output].check.due s.clock then
      State.conclude s (s.checkOutput output current.val)
    else s

/-- RETRY_TIMER_EXPIRY (R147). -/
def execRetryTimerExpiry (output : Fin 12) (s : State) : Answer :=
  .next <|
    if s.isRunning && s.lamps.outputs[output].retry.due s.clock then
      State.conclude s
        (s.setOutput output (s.lamps.outputs[output].retryFallsDue s.clock s.cfg))
    else s

/-- AMBIENT_SAMPLE (R138): in RUN and HAND, every 500 ms. -/
def execAmbientSample (level : Byte) (s : State) : Answer :=
  .next <|
    if s.isRunning && s.lamps.ambientTimer.due s.clock then
      ({ s with lamps := { s.lamps with ambientTimer := s.lamps.ambientTimer.nextBeat } } : State).sampleAmbient level
    else s

/-- FLASH_HALF_BOUNDARY (R128, R130): the flashing outputs follow φ. -/
def execFlashHalfBoundary (s : State) : Answer := .next (if s.isRunning then State.conclude s s else s)

/-- DEFAULT_PHASE_BOUNDARY (R141): the outputs follow the default phase. -/
def execDefaultPhaseBoundary (s : State) : Answer :=
  .next <|
    match s.stage with
    | .starting => { s with lamps := s.lamps.followDefault }
    | .configFault => { s with lamps := s.lamps.followDefault }
    | _ => s

end Sys2Proof.Machine
end

