-- ==== Sys2Proof/Machine/Clock.lean ====
section
/-!
DEFINITION. One millisecond of station time: what the block does while no command waits (log entry 4).
-/

namespace Sys2Proof.Machine

/-- The flash phase, the default phase and the PWM of the driven outputs one millisecond on (R130, R139, R141). -/
def Lamps.tick (v : Lamps) (c : StationConfig) : Lamps :=
  { v with
    outputs := Vector.ofFn fun i : Fin 12 => v.outputs[i].tick c
    phase := v.phase.map (fun p => (p + 1) % c.flashPeriod)
    defaultPhase := (v.defaultPhase + 1) % Config.defaultPeriod }

/-- One millisecond of station time (Conventions, "Time"): none passes while the part is held in reset, where the clock
waits to be set to 0 (R163). What a timer's end or a phase's crossing brings is a command of its own. -/
def State.tick (s : State) : State :=
  if s.stage == .inReset then s else { s with clock := s.clock + 1, lamps := s.lamps.tick s.cfg }

end Sys2Proof.Machine
end

