-- ==== Sys2Proof/Machine/Dispatch.lean ====
section
/-!
DEFINITION. The dispatch of a command to its meaning, one arm per row of the command table.
-/

namespace Sys2Proof.Machine

def exec (i : Instr) (s : State) : Host.Outcome State Fault Refusal :=
  match i with
  | .powerOn strap1 strap2 => Sys2Proof.Machine.execPowerOn strap1 strap2 s
  | .rstAssert => Sys2Proof.Machine.execRstAssert s
  | .rstRelease strap1 strap2 => Sys2Proof.Machine.execRstRelease strap1 strap2 s
  | .imageReadEnd response => Sys2Proof.Machine.execImageReadEnd response s
  | .imageReadTimeout => Sys2Proof.Machine.execImageReadTimeout s
  | .startTimerExpiry encoder ambient => Sys2Proof.Machine.execStartTimerExpiry encoder ambient s
  | .rawInputChange line level => Sys2Proof.Machine.execRawInputChange line level s
  | .debounceExpiry line encoder => Sys2Proof.Machine.execDebounceExpiry line encoder s
  | .receptionStart link => Sys2Proof.Machine.execReceptionStart link s
  | .badCheckReception link bytes => Sys2Proof.Machine.execBadCheckReception link bytes s
  | .framingError link bytes => Sys2Proof.Machine.execFramingError link bytes s
  | .failedLinkReception link bytes => Sys2Proof.Machine.execFailedLinkReception link bytes s
  | .malformedTelegram link bytes => Sys2Proof.Machine.execMalformedTelegram link bytes s
  | .ownNumberTelegram link bytes => Sys2Proof.Machine.execOwnNumberTelegram link bytes s
  | .statusReceived link sender seq body => Sys2Proof.Machine.execStatusReceived link sender seq body s
  | .demandReceived link sender seq kind number => Sys2Proof.Machine.execDemandReceived link sender seq kind number s
  | .haltReceived link sender seq mask reason => Sys2Proof.Machine.execHaltReceived link sender seq mask reason s
  | .resumeReceived link sender seq mask => Sys2Proof.Machine.execResumeReceived link sender seq mask s
  | .queryReceived link sender seq target => Sys2Proof.Machine.execQueryReceived link sender seq target s
  | .recordReceived link sender seq bytes => Sys2Proof.Machine.execRecordReceived link sender seq bytes s
  | .attemptBegin link => Sys2Proof.Machine.execAttemptBegin link s
  | .attemptSent link => Sys2Proof.Machine.execAttemptSent link s
  | .attemptLostContention link => Sys2Proof.Machine.execAttemptLostContention link s
  | .attemptDamaged link => Sys2Proof.Machine.execAttemptDamaged link s
  | .silenceTimerExpiry link => Sys2Proof.Machine.execSilenceTimerExpiry link s
  | .deadlineExpiry slot => Sys2Proof.Machine.execDeadlineExpiry slot s
  | .stallTimerExpiry => Sys2Proof.Machine.execStallTimerExpiry s
  | .supervisionExpiry => Sys2Proof.Machine.execSupervisionExpiry s
  | .prewarnTimerExpiry => Sys2Proof.Machine.execPrewarnTimerExpiry s
  | .tClearExpiry => Sys2Proof.Machine.execTClearExpiry s
  | .amberTimerExpiry => Sys2Proof.Machine.execAmberTimerExpiry s
  | .recoveryTimerExpiry => Sys2Proof.Machine.execRecoveryTimerExpiry s
  | .controlPeriodExpiry encoder => Sys2Proof.Machine.execControlPeriodExpiry encoder s
  | .statusPeriodExpiry => Sys2Proof.Machine.execStatusPeriodExpiry s
  | .gapTimerExpiry => Sys2Proof.Machine.execGapTimerExpiry s
  | .checkTimerExpiry output current => Sys2Proof.Machine.execCheckTimerExpiry output current s
  | .retryTimerExpiry output => Sys2Proof.Machine.execRetryTimerExpiry output s
  | .ambientSample level => Sys2Proof.Machine.execAmbientSample level s
  | .flashHalfBoundary => Sys2Proof.Machine.execFlashHalfBoundary s
  | .defaultPhaseBoundary => Sys2Proof.Machine.execDefaultPhaseBoundary s

end Sys2Proof.Machine
end

