-- ==== Sys2Proof/WellFormed.lean ====
section
/-!
DEFINITION. The well-formed commands: those whose operands an event at the part can carry.
-/

namespace Sys2Proof

/-- A sender of a delivered telegram: 1..31 (R161 step 1). -/
def senderFits (sender : Byte) : Bool := decide (1 ≤ sender.toNat) && decide (sender.toNat ≤ 31)

/-- The bytes are a valid reception, well formed or not (R159). -/
def validReception (bytes : List Byte) : Bool :=
  match Machine.judgeReception bytes with
  | .valid _ => true
  | .malformed => true
  | _ => false

/-- The bytes are a valid and well-formed telegram (R161). -/
def wellFormedReception (bytes : List Byte) : Bool :=
  match Machine.judgeReception bytes with
  | .valid _ => true
  | _ => false

/-- A RECORD body has the length its counts and flags declare, and fits its length byte (R172, R174). -/
def recordFits (bytes : List Byte) : Bool :=
  bytes.length == Machine.recordLength bytes && decide (bytes.length ≤ 255)

/-- Whether a command is well formed. -/
def Instr.wellFormed : Instr → Bool
  | .powerOn _ _ => true
  | .rstAssert => true
  | .rstRelease _ _ => true
  | .imageReadEnd none => true
  | .imageReadEnd (some image) => image.length == 256
  | .imageReadTimeout => true
  | .startTimerExpiry _ _ => true
  | .rawInputChange _ _ => true
  | .debounceExpiry _ _ => true
  | .receptionStart _ => true
  | .badCheckReception _ bytes => Machine.judgeReception bytes == .badCheck
  | .framingError _ _ => true
  | .failedLinkReception _ bytes => validReception bytes
  | .malformedTelegram _ bytes => Machine.judgeReception bytes == .malformed
  | .ownNumberTelegram _ bytes => wellFormedReception bytes
  | .statusReceived _ sender _ _ => senderFits sender
  | .demandReceived _ sender _ _ _ => senderFits sender
  | .haltReceived _ sender _ _ _ => senderFits sender
  | .resumeReceived _ sender _ _ => senderFits sender
  | .queryReceived _ sender _ _ => senderFits sender
  | .recordReceived _ sender _ bytes => senderFits sender && recordFits bytes
  | .attemptBegin _ => true
  | .attemptSent _ => true
  | .attemptLostContention _ => true
  | .attemptDamaged _ => true
  | .silenceTimerExpiry _ => true
  | .deadlineExpiry _ => true
  | .stallTimerExpiry => true
  | .supervisionExpiry => true
  | .prewarnTimerExpiry => true
  | .tClearExpiry => true
  | .amberTimerExpiry => true
  | .recoveryTimerExpiry => true
  | .controlPeriodExpiry _ => true
  | .statusPeriodExpiry => true
  | .gapTimerExpiry => true
  | .checkTimerExpiry _ _ => true
  | .retryTimerExpiry _ => true
  | .ambientSample _ => true
  | .flashHalfBoundary => true
  | .defaultPhaseBoundary => true

end Sys2Proof
end

