-- ==== Sys2Proof/Safety.lean ====
section
/-!
DEFINITION. What counts as a safe station, in the terms the claims use: the laws the manual's prose states of the whole
part.
-/

namespace Sys2Proof.Machine

/-- No drive output is active: no arm, no lock and no span drive (R55, R77). -/
def State.drivesInactive (s : State) : Bool := s.generalOutputs.all (!·)

/-- The station is at rest: no drive output is active and the speed reference is 0 (R119). -/
def State.atRest (s : State) : Bool := s.drivesInactive && s.level.speedRef == 0

/-- Some output of a function is lit. -/
def State.functionLit (s : State) (f : LampFunction) : Bool :=
  s.outputPairs.any (fun (c, o) => c.function == f && o.lit)

/-- A local cause is present in the halt record (R111). -/
def State.causePresent (s : State) : Bool := s.halt.live != 0 || s.halt.latched != 0

/-- The four slots of a link are empty and nothing is being sent on it (R160). -/
def LinkController.silent (c : LinkController) : Bool :=
  c.haltcmd.isNone && c.demand.isNone && c.status.isNone && c.record.isNone && c.attempt.isNone

/-- A configuration has been accepted: the start timer runs, or the station is past its start (R169). -/
def State.configured (s : State) : Bool := s.isRunning || s.loader.start.isRunning

/-- No cause of R82, R87 or R88 can arise in the reactions of an event. Off a HOIST there is none. A hoist without a
HOIST-flagged entry has no peer to lose, and meets OVERTRAVEL in a reaction only with TOP_LIMIT active. A hoist with one
is not in travel, and begins none while the present skew is absent (R81, R83; log entry 34). -/
def State.calm (s : State) : Prop :=
  s.role ≠ .hoist ∨ (s.flagged .hoist = [] ∧ s.topLimit = false) ∨
    (s.flagged .hoist ≠ [] ∧ s.hoistTravel = false ∧ s.level.skew = none)

/-- A link controller after a valid reception at `now` (R159, R160), its slots aside. -/
def LinkController.heard (c : LinkController) (now : Time) (silence : Nat) : LinkController :=
  { c with health := c.health - 1, state := c.state.judge (c.health - 1), captured := none,
           silence := .running now silence }

/-- A link controller after a sign of trouble (R159, R160), its slots aside. -/
def LinkController.troubled (c : LinkController) : LinkController :=
  { c with health := min 15 (c.health + 2), state := c.state.judge (min 15 (c.health + 2)) }

/-- A telegram waits in a slot of every link that is not FAILED (R155). -/
def State.placed (s : State) (k : SlotKind) (t : Telegram) : Prop :=
  ∀ l : Link, (s.link l).failed = false → (s.link l).slot k = some t

/-- No telegram waits in a HALTCMD slot. -/
def State.noHaltWaiting (s : State) : Prop := s.linkA.haltcmd = none ∧ s.linkB.haltcmd = none

/-- From `s` to `t` a hoist in travel was halted by a latched cause of that HALT reason code: the own number is the only
origin and the cause the first reason, the step is interrupted with its journal entry kept, motion is at rest, and a HALT
under the halt mask waits (R82, R84, R86 to R88, R114). -/
def State.travelHaltedBy (s t : State) (c : LocalCause) (code : Byte) : Prop :=
  t.halt = { s.halt with
    origins := BitVec.twoPow 32 s.own
    firstOrigin := some s.own
    firstReason := some (.cause c)
    latched := causeAdd s.halt.latched c } ∧
  t.seq.step = none ∧ t.seq.stopping = false ∧ t.seq.journal = s.seq.journal ∧ t.atRest = true ∧
  t.hoist.handshake = .none ∧ (s.hand.state = .off → t.seq.interrupted = s.stepNow) ∧
  (s.cfg.haltMask ≠ 0 → s.noHaltWaiting → s.bothFailed = false →
    t.placed .haltcmd { sender := byteOf s.own, seq := s.former.sequence, body := .halt s.cfg.haltMask code })

/-- A hoist in travel at which no cause of R82, R87 or R88 stands and no completion is due, and which a cause not yet
present would halt. -/
def State.travelsFreely (s : State) (c : LocalCause) : Prop :=
  s.role = .hoist ∧ s.hoistTravel = true ∧ s.travelCauses = [] ∧ s.halted = false ∧ s.halt.has c = false ∧
  1 ≤ s.own ∧ s.own ≤ 30 ∧
  (s.seq.stopping = false →
    (s.doing .raise .forward = true → s.level.height + s.cfg.stopBand < s.cfg.hTop) ∧
    (s.doing .raise .inverse = true → s.seatedInput = false))

/-! ### Invariants -/

/-- A peer entry as section 1.3 keeps it: which states hold L, run the deadline timer and hold a copy, and the bounds of
the deficit under a LOST_THRESHOLD. -/
def PeerEntry.fits (threshold : Nat) (p : PeerEntry) : Prop :=
  p.deficit ≤ 7 ∧
  (p.state = .tracked → p.deficit < threshold) ∧
  (p.state = .acquiring → p.deficit = 0) ∧
  (p.lastSeq.isSome = true ↔ p.state = .acquiring ∨ p.state = .tracked ∨ p.state = .mismatch) ∧
  (p.deadline.isRunning = true ↔ p.state = .acquiring ∨ p.state = .tracked) ∧
  (p.state = .acquiring ∨ p.state = .tracked ∨ p.state = .mismatch → p.report.isSome = true)

/-- The peer table as section 1.3 keeps it, every slot VACANT outside RUN and HAND (R2, R12). -/
def State.peersFit (s : State) : Prop :=
  (s.configured = true → 2 ≤ s.cfg.lostThreshold ∧ s.cfg.lostThreshold ≤ 7) ∧
  (s.isRunning = false → ∀ i : Fin 16, s.peers[i].state = .vacant) ∧
  ∀ i : Fin 16, s.peers[i].fits s.cfg.lostThreshold

/-- A link controller as section 10.5 keeps it: the state fits the count, a FAILED link holds no telegram, and nothing is
received while an attempt runs. -/
def LinkController.fits (c : LinkController) : Prop :=
  c.health ≤ 15 ∧
  (c.state = .good → c.health ≤ 5) ∧
  (c.state = .degraded → 6 ≤ c.health ∧ c.health ≤ 11) ∧
  (c.state = .failed → 6 ≤ c.health ∧ c.silent = true) ∧
  (c.attempt = none ∨ c.captured = none)

/-- Both links as section 10.5 keeps them. -/
def State.linksFit (s : State) : Prop := s.linkA.fits ∧ s.linkB.fits

/-- The halt record as R112 and R113 keep it: halted exactly when it has a first origin and a first reason, the own number
among the origins while a local cause is present, the live causes present while their conditions hold, and the reset
values outside RUN and HAND. -/
def State.haltFits (s : State) : Prop :=
  (s.configured = true → 1 ≤ s.own ∧ s.own ≤ 30) ∧
  (s.isRunning = false → s.halt = {} ∧ s.bothFailed = false) ∧
  (s.halted = s.halt.firstOrigin.isSome) ∧
  (s.halted = s.halt.firstReason.isSome) ∧
  (s.causePresent = true → maskHas s.halt.origins s.own = true) ∧
  (causeHas s.halt.live .isolated = s.bothFailed) ∧
  (s.isRunning = true → causeHas s.halt.live .estop = s.estopInput)

/-- Motion as R105, R119 and R125 keep it: a halted station has no step, no hand move and a speed reference of 0; hand
moves are made in HAND alone, where no step is in progress; the speed reference is 0 outside travel and hand moves, never
above V_max in magnitude, and never of the sign opposite to the direction of travel. -/
def State.motionFits (s : State) : Prop :=
  (s.halted = true → s.seq.step = none ∧ s.hand.move = none ∧ s.level.speedRef = 0) ∧
  (s.inHand = true → s.seq.step = none) ∧
  (s.hand.move.isSome = true → s.inHand = true) ∧
  (s.isRunning = false → s.seq.step = none ∧ s.hand.move = none ∧ s.level.speedRef = 0) ∧
  (s.hoistTravel = false → s.hand.move = none → s.level.speedRef = 0) ∧
  s.level.speedRef.natAbs ≤ s.cfg.vMax ∧
  (s.doing .raise .forward = true ∨ s.hand.move = some .up → 0 ≤ s.level.speedRef) ∧
  (s.doing .raise .inverse = true ∨ s.hand.move = some .down → s.level.speedRef ≤ 0)

/-- The speed reference of a hoist as R106 guards it: a hoist in travel or in a hand move has every HOIST-flagged entry
TRACKED, and the reference is non-zero only in RUN or HAND, not halted, with every HOIST-flagged entry TRACKED. -/
def State.referenceGuarded (s : State) : Prop :=
  (s.role = .hoist → s.hoistTravel = true ∨ s.hand.move.isSome = true → s.hoistPeersTracked = true) ∧
  (s.role = .hoist → s.level.speedRef ≠ 0 →
    s.isRunning = true ∧ s.halted = false ∧
      ∀ i : Fin 16, s.peers[i].state ≠ .vacant → s.peers[i].flags.getLsbD 5 = true → s.peers[i].state = .tracked)

/-- A journal as R38 keeps it: the forward steps of a role in list order, oldest first, and only the newest entry
PARTIAL. -/
def journalFits (r : Role) (j : List JournalEntry) : Prop :=
  j.reverse.map (·.step) = r.steps.take j.length ∧ ∀ e ∈ j.drop 1, e.state = .done

/-- The sequencer as R38 keeps it: the journal fits the role; a step in progress has its entry, PARTIAL, on top; none is
in progress in recovery, and the journal is empty outside RUN and HAND. -/
def State.journalKept (s : State) : Prop :=
  journalFits s.role s.seq.journal ∧
  (∀ p, s.seq.step = some p → ∃ e rest, s.seq.journal = e :: rest ∧ e.step = p.step.kind ∧ e.state = .partway) ∧
  (s.inRecovery = true → s.seq.step = none) ∧
  (s.isRunning = false → s.seq.journal = [] ∧ s.seq.step = none)

/-- The road red law of R135, in RUN and HAND: but for the fail-safe patterns, no output of the A group is lit together
with one of the B group. Before RUN the default pattern may light both (R135, R141). -/
def State.redsAlternate (s : State) : Prop :=
  s.isRunning = true → s.bothFailed = false →
    ¬(s.functionLit .roadRedA = true ∧ s.functionLit .roadRedB = true)

/-- The marine green law of R135, in RUN and HAND: a MARINE_GREEN output is lit at a SIGNAL station alone, in RUN, not
halted, not isolated, with HOISTS_TOP true. A station without a hand panel is never in HAND (R123). -/
def State.greenGuarded (s : State) : Prop :=
  (s.role.hasHandPanel = false ∨ s.isRunning = false → s.hand.state = .off) ∧
  (s.isRunning = true → s.functionLit .marineGreen = true →
    s.role = .signal ∧ s.inHand = false ∧ s.halted = false ∧ s.bothFailed = false ∧ s.permissive .hoistsTop = true)

/-- The flash phase as R130 and R168 keep it: absent outside RUN and HAND, and within an even period of 600..1500 ms
there. -/
def State.phaseFits (s : State) : Prop :=
  (s.configured = true → 600 ≤ s.cfg.flashPeriod ∧ s.cfg.flashPeriod ≤ 1500 ∧ s.cfg.flashPeriod % 2 = 0) ∧
  (s.isRunning = false → s.lamps.phase = none) ∧
  (s.isRunning = true → ∃ p, s.lamps.phase = some p ∧ p < s.cfg.flashPeriod)

/-- An output without diagnostics as R143 keeps it: UNPROVEN while commanded and OFF while not, with no check and no
retry. -/
def State.undiagnosedFit (s : State) : Prop :=
  s.isRunning = true → ∀ i : Fin 12, s.cfg.outputs[i].diagnostics = false →
    let o := s.lamps.outputs[i]
    o.proof = (if o.command = .off then .off else .unproven) ∧ o.check = .stopped ∧ o.retry = .stopped ∧
      o.retryDue = false ∧ o.retrying = false

/-- The level accumulator within its range (R99). -/
def State.accumulatorFits (s : State) : Prop :=
  -1048576 ≤ s.level.accumulator ∧ s.level.accumulator ≤ 1048575

/-! ### What the reactions of an event leave alone -/

/-- What no reaction of an event touches in a link controller. -/
structure LinkStill where
  state : LinkState
  health : Nat
  captured : Option Nat
  silence : Timer
  deriving DecidableEq, Repr

/-- The untouched part of a link controller. -/
def LinkController.still (c : LinkController) : LinkStill :=
  { state := c.state, health := c.health, captured := c.captured, silence := c.silence }

/-- What no reaction of an event touches in the level controller. -/
structure LevelStill where
  height : Nat
  mean : Nat
  error : Int
  skew : Option Nat
  skewFull : Bool
  skewWarn : Bool
  expiryHeight : Nat
  timer : Timer
  line : Option Int
  deriving DecidableEq, Repr

/-- The untouched part of the level controller. -/
def Level.still (v : Level) : LevelStill :=
  { height := v.height, mean := v.mean, error := v.error, skew := v.skew, skewFull := v.skewFull, skewWarn := v.skewWarn,
    expiryHeight := v.expiryHeight, timer := v.timer, line := v.line }

/-- What no reaction of an event touches: whatever differs here between two states is the effect of the event itself. -/
structure Still where
  stage : Stage
  clock : Time
  loader : Loader
  cfg : StationConfig
  crc : BitVec 16
  inputs : Vector InputLine 16
  peers : Vector PeerEntry 16
  peerConfig : Bool
  adopted : Option Demand
  counter : Nat
  exhausted : Bool
  level : LevelStill
  phase : Option Nat
  pattern : Command
  defaultPhase : Nat
  ambientTimer : Timer
  linkA : LinkStill
  linkB : LinkStill
  pending : List Instr
  deriving DecidableEq, Repr

/-- The untouched part of a state. -/
def State.still (s : State) : Still :=
  { stage := s.stage, clock := s.clock, loader := s.loader, cfg := s.cfg, crc := s.crc, inputs := s.inputs,
    peers := s.peers, peerConfig := s.peerConfig, adopted := s.demand.adopted, counter := s.demand.counter,
    exhausted := s.demand.exhausted, level := s.level.still, phase := s.lamps.phase, pattern := s.lamps.pattern,
    defaultPhase := s.lamps.defaultPhase, ambientTimer := s.lamps.ambientTimer, linkA := s.linkA.still,
    linkB := s.linkB.still, pending := s.pending }

end Sys2Proof.Machine
end

