-- ==== Sys2Proof/Certificates/Slice0/Obligations.lean ====
section
/-!
DEFINITION. The statements for the provers. Each says what a command or the whole part does, by the rules its docstring
names; log entry numbers are given where a clause is the model's own choice.
-/

open Sys2Proof Sys2Proof.Machine

/-! ### The step -/

/-- The step takes the command that has waited longest and is that command's effect on the state with the queue's rest. -/
def Obligations.StepTakesFrontCommand : Prop :=
  ∀ (c : Instr) (rest : List Instr) (s : State),
    step { s with pending := c :: rest } = exec c { s with pending := rest }

/-- The model's choice (log entry 4): with an empty queue a step is one millisecond of station time. The station clock,
the flash phase and the default phase advance (R130, R141), the PWM period of every driven output runs on, and one that
begins within the millisecond takes the duty then in place (R139); nothing else changes, and a part held in reset stays
as it is. -/
def Obligations.EmptyQueueStepIsOneMillisecond : Prop :=
  ∀ s : State, s.pending = [] →
    (s.stage = .inReset → step s = .next s) ∧
    (s.stage ≠ .inReset → step s = .next
      { s with
        clock := s.clock + 1
        lamps := { s.lamps with
          outputs := Vector.ofFn fun i : Fin 12 =>
            let o := s.lamps.outputs[i]
            if o.driven then
              { o with
                pwm := (o.pwm + 1000) % s.cfg.pwmPeriod
                pwmDuty :=
                  if o.pwm + 1000 < s.cfg.pwmPeriod then o.pwmDuty
                  else if o.retrying then s.cfg.retryDuty else o.duty }
            else o
          phase := s.lamps.phase.map (fun p => (p + 1) % s.cfg.flashPeriod)
          defaultPhase := (s.lamps.defaultPhase + 1) % 1000 } })

/-- No command changes the queue behind it. -/
def Obligations.CommandsLeaveQueue : Prop :=
  ∀ (c : Instr) (s t : State), exec c s = .next t → t.pending = s.pending

/-! ### Reset and start-up -/

/-- POWER_ON, and RST_RELEASE of a part in reset, enter STARTING with every block at its reset values, the clock at 0,
the read, the control period timer and the default phase started, and every output under the pattern of the straps
(R163, R141): both open OFF, the first alone STEADY, the second FLASH_A. An active RST holds the part in reset: nothing
is driven, lit, sent or healthy, and the read is abandoned. The raw input lines stand as they are (log entry 1), and
POWER_ON does not ask for the level of RST (log entry 35). -/
def Obligations.ResetCommands : Prop :=
  ∀ (s : State) (strap1 strap2 : Bool),
    let raw : Vector InputLine 16 := Vector.ofFn fun i : Fin 16 => { raw := s.inputs[i].raw }
    let pattern : Command := if strap2 then .flashA else if strap1 then .steady else .off
    let started : State :=
      { stage := .starting, clock := 0, loader := { read := .running 0 100 }, level := { timer := .running 0 20 },
        lamps := { pattern := pattern,
                   outputs := Vector.ofFn fun _ => { command := pattern, lit := decide (pattern ≠ .off) } },
        inputs := raw, drawn := s.drawn, pending := s.pending }
    exec (.powerOn strap1 strap2) s = .next started ∧
    (s.stage = .inReset → exec (.rstRelease strap1 strap2) s = .next started) ∧
    ∃ t, exec .rstAssert s = .next t ∧
      t = { stage := .inReset, inputs := raw, drawn := s.drawn, pending := s.pending } ∧
      t.generalOutputs.all (!·) = true ∧ (∀ i : Fin 12, t.lamps.outputs[i].lit = false) ∧ t.level.line = none ∧
      t.linkA.silent = true ∧ t.linkB.silent = true ∧ t.healthy = false

/-- What reset leaves (R2, R23, R36, R53, R61, R75, R94, R111, R123, R131, R142, R152), and that the state after reset
meets every invariant stated of the steps below. -/
def Obligations.ResetValues : Prop :=
  let s := State.reset
  s.stage = .starting ∧ s.clock = 0 ∧
  (∀ i : Fin 16, s.peers[i].state = .vacant ∧ s.peers[i].lastSeq = none ∧ s.peers[i].deficit = 0) ∧
  s.demand = { adopted := none, stallTimer := .stopped, stalled := false, counter := 0, exhausted := false } ∧
  s.seq = { step := none, stopping := false, interrupted := none, supervision := .stopped, journal := [] } ∧
  s.barrier.hold = .absent ∧ s.signal.recovering = true ∧ s.hoist.handshake = .none ∧
  s.level.height = 0 ∧ s.level.accumulator = 0 ∧ s.level.sat = false ∧ s.level.speedRef = 0 ∧ s.level.skew = none ∧
  s.level.timer = .running 0 20 ∧
  s.halt = { origins := 0, firstOrigin := none, firstReason := none, live := 0, latched := 0 } ∧
  s.hand.state = .off ∧ s.lamps.reference = none ∧ s.lamps.lock = .free ∧
  (∀ i : Fin 12, s.lamps.outputs[i].proof = .off ∧ s.lamps.outputs[i].duty = 255) ∧
  (∀ l : Link, (s.link l).state = .good ∧ (s.link l).health = 0 ∧ (s.link l).silent = true) ∧
  s.former = { sequence := 0, period := .stopped, gap := .stopped, changePending := false } ∧
  s.peersFit ∧ s.linksFit ∧ s.haltFits ∧ s.motionFits ∧ s.referenceGuarded ∧ s.journalKept ∧ s.redsAlternate ∧
  s.greenGuarded ∧ s.undiagnosedFit ∧ s.phaseFits ∧ s.accumulatorFits

/-- The end of the read (R164, R166, R169): an accepted image within 100 ms is loaded, its debounce time starts the
start timer and the debouncing of every input at its raw level; a refused image, a read without an acknowledgement, and
the 100 ms expiring each end the load in CONFIG_FAULT. Nothing else changes. -/
def Obligations.ImageReadEnds : Prop :=
  ∀ (s : State) (start : Time), s.stage = .starting → s.loader.read = .running start 100 →
    (∀ image : List Byte, image.length = 256 → since s.clock start ≤ 100 →
      (∀ c, loadImage image = some c →
        exec (.imageReadEnd (some image)) s = .next
          { s with
            cfg := c
            crc := crc (image.take 254)
            loader := { read := .stopped, start := .running s.clock c.debounce }
            inputs := Vector.ofFn fun i : Fin 16 =>
              { raw := s.inputs[i].raw, candidate := s.inputs[i].raw, level := false,
                timer := .running s.clock c.debounce } }) ∧
      (loadImage image = none →
        exec (.imageReadEnd (some image)) s = .next
          { s with stage := .configFault, crc := crc (image.take 254), loader := {} })) ∧
    exec (.imageReadEnd none) s = .next { s with stage := .configFault, loader := {} } ∧
    (100 ≤ since s.clock start → exec .imageReadTimeout s = .next { s with stage := .configFault, loader := {} })

/-- An image is accepted exactly when it passes the judgements 2 to 7 of R164 on its fields as R175 places them: the
check, the tag 5434 hex, the own number, the role, no duplicate among the peer records left by R165 and none with the
own number, and the flags the role requires. -/
def Obligations.ImageAcceptedByItsJudgements : Prop :=
  ∀ image : List Byte,
    let at8 (o : Nat) := (image.getD o 0).toNat
    let records := peerRecords image
    let kind : BarrierKind := if at8 4 = 0 then .entry else .exit
    (loadImage image).isSome = true ↔
      (crc (image.take 254)).toNat = 256 * at8 254 + at8 255 ∧
      at8 0 = 0x54 ∧ at8 1 = 0x34 ∧ 1 ≤ at8 2 ∧ at8 2 ≤ 30 ∧
      (∀ i : Fin 16, records[i].station ≠ at8 2) ∧
      (∀ i j : Fin 16, i ≠ j → records[i].station ≠ 0 → records[i].station ≠ records[j].station) ∧
      ∃ role, roleOf (image.getD 3 0) = some role ∧
        ∀ f ∈ requiredFlags role kind,
          ∃ i : Fin 16, records[i].station ≠ 0 ∧ records[i].flags.getLsbD f.bit = true

/-- Every loaded quantity lies in the range R167 gives it, the dependent ones in the ranges of R168. -/
def Obligations.LoadedConfigurationInRange : Prop :=
  ∀ (image : List Byte) (c : StationConfig), loadImage image = some c →
    (1 ≤ c.station ∧ c.station ≤ 30) ∧ (c.linkRate = 125 ∨ c.linkRate = 250 ∨ c.linkRate = 500) ∧
    (20 ≤ c.statusPeriod ∧ c.statusPeriod ≤ 200) ∧ (30 ≤ c.peerDeadline ∧ c.peerDeadline ≤ 1000) ∧
    (2 ≤ c.lostThreshold ∧ c.lostThreshold ≤ 7) ∧ (50 ≤ c.linkSilence ∧ c.linkSilence ≤ 2000) ∧
    c.linkDelay ≤ 15 ∧ (5 ≤ c.debounce ∧ c.debounce ≤ 100) ∧
    (c.haltMask.getLsbD 0 = false ∧ c.haltMask.getLsbD 31 = false) ∧
    (c.deskSet.length ≤ 2 ∧ c.deskSet.Nodup ∧ ∀ n ∈ c.deskSet, 1 ≤ n ∧ n ≤ 30) ∧
    (∀ i : Fin 6, 1 ≤ c.stepLimits[i] ∧ c.stepLimits[i] ≤ 2550) ∧ (1 ≤ c.tAmber ∧ c.tAmber ≤ 30) ∧
    (1 ≤ c.tPrewarn ∧ c.tPrewarn ≤ 60) ∧ (1 ≤ c.tClear ∧ c.tClear ≤ 60) ∧ (1 ≤ c.agreeTime ∧ c.agreeTime ≤ 60) ∧
    (1 ≤ c.vMax ∧ c.vMax ≤ 600) ∧ (1 ≤ c.vFull ∧ c.vFull ≤ c.vMax) ∧ (1 ≤ c.vCreep ∧ c.vCreep ≤ c.vFull) ∧
    (1 ≤ c.ramp ∧ c.ramp ≤ 1000) ∧ (1 ≤ c.decel ∧ c.decel ≤ 100) ∧ c.kp ≤ 255 ∧ c.ki ≤ 255 ∧ c.cMax ≤ 200 ∧
    (1000 ≤ c.hTop ∧ c.hTop ≤ 65000) ∧ c.hSeat ≤ 500 ∧ (1 ≤ c.stopBand ∧ c.stopBand ≤ 50) ∧
    (10 ≤ c.seatBand ∧ c.seatBand ≤ 1000) ∧ (5 ≤ c.skewWarn ∧ c.skewWarn ≤ 500) ∧
    (c.skewWarn + 1 ≤ c.skewTrip ∧ c.skewTrip ≤ 1000) ∧
    (600 ≤ c.flashPeriod ∧ c.flashPeriod ≤ 1500 ∧ c.flashPeriod % 2 = 0) ∧
    (2 ≤ c.lockWindow ∧ c.lockWindow ≤ 50) ∧ (5 ≤ c.slew ∧ c.slew ≤ 200) ∧
    (∀ i : Fin 7, 1 ≤ c.minProven[i] ∧ c.minProven[i] ≤ 4) ∧ c.openThreshold ≤ 2000 ∧ c.threshold0 ≤ 2000 ∧
    c.threshold1 ≤ 2000 ∧ c.blankingCode ≤ 7 ∧ (1 ≤ c.retryTime ∧ c.retryTime ≤ 60) ∧
    (32 ≤ c.retryDuty ∧ c.retryDuty ≤ 255) ∧ c.dimFloor ≤ 255 ∧ c.pwmCode ≤ 3 ∧
    ∀ o : OutputConfig, o.diagnostics = true → c.floorFor o = max c.dimFloor 32

/-- The entry into RUN (R2, R47, R48, R61, R94, R130, R138, R152, R158, R169): every slot filled and UNKNOWN, every
debounced level at its candidate with its debounce timer running on, the flash phase at the station time mod P, the
silence timers started, the encoder reading taken by a hoist, no control period at another role, the journal of a
BARRIER or HOIST rebuilt from its inputs, a SIGNAL station's recovery timer started, and the first STATUS formed and
carrying the fields as they then stand, with no permissive agreed and no function proven. An active ESTOP and a hoist's
invalid reading halt the station at this event, each with its HALT (codes 1 and 6), and an active HAND_KEY gives HAND
with the rebuilt journal kept (R48, R113, R114, R123). That the height so read is the one a travel step may start from
is log entry 14, that the control period timer stops at another role is log entry 28, that no button held down there is
a press is log entry 37, and that a HALT takes the sequence number before that of the STATUS is log entry 11. -/
def Obligations.EntryIntoRun : Prop :=
  ∀ (s : State) (encoder : Option Word16) (ambient : Byte),
    s.stage = .starting → s.loader.start.due s.clock = true →
    let up := s.inputs[4].candidate
    let down := s.inputs[5].candidate
    let locked := s.inputs[6].candidate
    let entry (k : ForwardStep) (e : EntryState) : JournalEntry := { step := k, state := e, start := s.clock }
    let height := if s.role = .hoist then (encoder.map (·.toNat)).getD s.level.height else s.level.height
    ∃ t, exec (.startTimerExpiry encoder ambient) s = .next t ∧
      t.still = { s.still with
        stage := .running
        loader := {}
        inputs := Vector.ofFn fun i : Fin 16 => { s.inputs[i] with level := s.inputs[i].candidate }
        peers := Vector.ofFn fun i : Fin 16 =>
          if s.cfg.peers[i].station = 0 then {}
          else { station := s.cfg.peers[i].station, role := s.cfg.peers[i].role, flags := s.cfg.peers[i].flags,
                 state := .unknown }
        phase := some (s.clock.toNat % s.cfg.flashPeriod)
        ambientTimer := .running s.clock 500
        linkA := { s.linkA.still with silence := .running s.clock s.cfg.linkSilence }
        linkB := { s.linkB.still with silence := .running s.clock s.cfg.linkSilence }
        level :=
          if s.role = .hoist then { s.level.still with height := height, expiryHeight := height }
          else { s.level.still with timer := .stopped, line := none } } ∧
      (s.role = .barrier → s.demand.adopted = none → t.seq.step = none ∧ t.seq.journal =
        if up = true ∧ down = false then []
        else if down = true ∧ up = false then
          [entry .lock (if locked then .done else .partway), entry .lower .done]
        else [entry .lower .partway]) ∧
      (s.role = .hoist → s.demand.adopted = none → t.seq.step = none ∧ t.seq.journal =
        if up = true then
          if down = true ∧ locked = false then []
          else [entry .withdraw (if locked = true ∧ down = false then .done else .partway)]
        else
          [entry .raise (if ∃ h, encoder = some h ∧ s.cfg.hTop ≤ h.toNat + s.cfg.stopBand then .done else .partway),
            entry .withdraw .done]) ∧
      (s.role = .signal → s.signal.recovering = true →
        (∃ i : Fin 16, s.cfg.peers[i].station ≠ 0 ∧
          (s.cfg.peers[i].role = .barrier ∨ s.cfg.peers[i].role = .hoist)) →
        t.signal.recovering = true ∧ t.signal.recoveryTimer = .running s.clock 5000) ∧
      (let estop : Prop := s.inputs[0].candidate = true
       let unread : Prop := s.role = .hoist ∧ encoder = none
       let halts (c : LocalCause) (record : HaltRecord) : Prop :=
         t.halt = { record with origins := BitVec.twoPow 32 s.own, firstOrigin := some s.own,
                                firstReason := some (.cause c) } ∧ t.atRest = true ∧
           (s.cfg.haltMask ≠ 0 → s.noHaltWaiting → s.bothFailed = false →
             t.placed .haltcmd { sender := byteOf s.own, seq := s.former.sequence,
                                 body := .halt s.cfg.haltMask (if c = .estop then 1 else 6) })
       s.halt = {} → s.demand.adopted = none → 1 ≤ s.own → s.own ≤ 30 →
         (¬estop → ¬unread → t.halt = {}) ∧
         (estop → ¬unread → halts .estop { live := causeAdd 0 .estop }) ∧
         (¬estop → unread → halts .encoder { latched := causeAdd 0 .encoder }) ∧
         (estop → unread → t.atRest = true ∧ t.halt.origins = BitVec.twoPow 32 s.own ∧
           t.halt.firstOrigin = some s.own ∧
           (t.halt.firstReason = some (.cause .estop) ∨ t.halt.firstReason = some (.cause .encoder)) ∧
           t.halt.live = causeAdd 0 .estop ∧ t.halt.latched = causeAdd 0 .encoder)) ∧
      (s.hand = {} → s.demand.adopted = none →
        ((s.role = .barrier ∨ s.role = .hoist) ∧ s.inputs[1].candidate = true → t.hand = { state := .hand }) ∧
        (¬((s.role = .barrier ∨ s.role = .hoist) ∧ s.inputs[1].candidate = true) → t.hand = {})) ∧
      (s.bothFailed = false →
        t.placed .status { sender := byteOf s.own, seq := t.former.sequence - 1, body := .status t.statusBody } ∧
        t.former.period = .running s.clock s.cfg.statusPeriod ∧ t.former.gap = .running s.clock 10 ∧
        (s.demand.adopted = none →
          t.statusBody =
            { role := s.role.code, hand := decide (t.hand.state = .hand), handPending := false, agreed := false,
              flashActive := t.flashActive, phase := phaseCode s.role t.phase, lock := t.lamps.lock.code,
              faults := t.faultSet, proven := 0, stamp := 0, echo := none,
              halt :=
                if t.halted then
                  some { origin := byteOf (t.halt.firstOrigin.getD 0),
                         reason := (t.halt.firstReason.getD .other).code }
                else none
              hoist :=
                if s.role = .hoist then
                  some { height := BitVec.ofNat 16 height, speed := BitVec.ofInt 16 t.level.speedRef, sat := s.level.sat,
                         skewWarn := s.level.skewWarn }
                else none
              zone := if t.hasDetectors then some t.zoneReport else none }))

/-! ### Field inputs -/

/-- The debouncing of the general inputs (R169, R70). A change of the raw level becomes the candidate and restarts the
debounce timer, and nothing else; before the acceptance of the image only the line changes. At the expiry the debounced
level takes the candidate: where it is the level already nothing else changes, and where it changes no other input does;
but for the hand panel and desk lines the reactions of the event leave everything else of `State.still` alone. An
enabled detector that becomes occupied sets the zone occupancy flag. TOP_LIMIT (GI8) becoming active during a hoist's
RAISE, its stopping stage included, latches OVERTRAVEL and halts it (R82); that the HALT takes the sequence number
before that of the STATUS of the same event is log entry 11. -/
def Obligations.InputsAreDebounced : Prop :=
  ∀ (s : State) (i : Fin 16),
    let x := s.inputs[i]
    (∀ level : Bool, x.raw ≠ level →
      let taken : InputLine :=
        { raw := level, candidate := level, level := x.level, timer := .running s.clock s.cfg.debounce }
      (s.configured = true → s.stage = .running ∨ s.stage = .starting →
        exec (.rawInputChange i level) s = .next { s with inputs := s.inputs.set i taken }) ∧
      (s.configured = false →
        exec (.rawInputChange i level) s = .next { s with inputs := s.inputs.set i { x with raw := level } })) ∧
    exec (.rawInputChange i x.raw) s = .next s ∧
    (s.isRunning = true → x.timer.due s.clock = true → ∀ encoder : Option Word16,
      let inputs := s.inputs.set i { x with level := x.candidate, timer := .stopped }
      (x.level = x.candidate → exec (.debounceExpiry i encoder) s = .next { s with inputs := inputs }) ∧
      (x.level ≠ x.candidate → ∃ t, exec (.debounceExpiry i encoder) s = .next t ∧ t.inputs = inputs ∧
        (i = 0 ∨ 6 ≤ i → t.still = { s.still with inputs := inputs }) ∧
        (∀ k : Fin 4, i.val = 8 + k.val → s.detectorEnabled k = true → x.candidate = true → t.zoneFlag = true) ∧
        (i = 7 → x.candidate = true → s.doing .raise .forward = true → s.travelsFreely .overtravel →
          s.travelHaltedBy t .overtravel 5)))

/-- ESTOP (R112, R113, R114, R119): its becoming active at a station that is not halted halts it, with the own number
the only origin and ESTOP the first reason; motion is at rest, a step in progress becomes the interrupted step with its
timer suspended, the journal stays, and a HALT with the reason ESTOP (code 1) waits on every link that is not FAILED. A
station halted already keeps its first origin and reason, gains its own number and the live cause, and forms the same
HALT. Its becoming inactive removes the live cause and changes nothing else in the halt record. That the HALT takes the
sequence number before that of the STATUS of the same event is log entry 11. -/
def Obligations.EstopHaltsStation : Prop :=
  ∀ (s : State) (encoder : Option Word16),
    s.isRunning = true → s.inputs[0].timer.due s.clock = true → 1 ≤ s.own → s.own ≤ 30 →
    (s.inputs[0].candidate = true → s.inputs[0].level = false → s.halted = false →
      s.halt.has .estop = false → s.inRecovery = false →
      ∃ t, exec (.debounceExpiry 0 encoder) s = .next t ∧
        t.halt = { s.halt with origins := BitVec.twoPow 32 s.own, firstOrigin := some s.own,
                               firstReason := some (.cause .estop), live := causeAdd s.halt.live .estop } ∧
        t.atRest = true ∧ t.seq.step = none ∧ t.hand.move = none ∧ t.seq.journal = s.seq.journal ∧
        (∀ p, s.seq.step = some p → s.hand.state = .off →
          t.seq.interrupted = some p.step ∧ t.seq.supervision = .suspended (s.seq.supervision.elapsed s.clock)) ∧
        (s.cfg.haltMask ≠ 0 → s.noHaltWaiting → s.bothFailed = false →
          t.placed .haltcmd { sender := byteOf s.own, seq := s.former.sequence, body := .halt s.cfg.haltMask 1 })) ∧
    (s.inputs[0].candidate = true → s.inputs[0].level = false → s.halted = true → s.halt.has .estop = false →
      s.seq.step = none →
      ∃ t, exec (.debounceExpiry 0 encoder) s = .next t ∧
        t.halt = { s.halt with origins := s.halt.origins ||| BitVec.twoPow 32 s.own,
                               live := causeAdd s.halt.live .estop } ∧
        (s.cfg.haltMask ≠ 0 → s.noHaltWaiting → s.bothFailed = false →
          t.placed .haltcmd { sender := byteOf s.own, seq := s.former.sequence, body := .halt s.cfg.haltMask 1 })) ∧
    (s.inputs[0].candidate = false → s.inputs[0].level = true → s.halted = true → s.seq.step = none →
      ∃ t, exec (.debounceExpiry 0 encoder) s = .next t ∧
        t.halt = { s.halt with live := causeRemove s.halt.live .estop })

/-- A press of OPEN (GI3) or CLOSE (GI4) at a DESK in RUN (R29, R30): of another kind than the adopted one, it issues a
demand numbered one above the counter and the adopted number, adopts it and forms a DEMAND telegram; of the adopted kind
it is ignored; past number 65535 it is refused with DEMAND_EXHAUSTED. That the DEMAND takes the sequence number before
that of the STATUS of the same event is log entry 11. -/
def Obligations.DeskIssuesDemand : Prop :=
  ∀ (s : State) (i : Fin 16) (k : DemandKind) (encoder : Option Word16),
    s.isRunning = true → s.role = .desk → (i = 2 ∧ k = .openBridge ∨ i = 3 ∧ k = .closeBridge) →
    s.inputs[i].timer.due s.clock = true → s.inputs[i].candidate = true → s.inputs[i].level = false →
    let n := max s.demand.counter ((s.demand.adopted.map (·.number)).getD 0) + 1
    let kind := s.demand.adopted.map (·.kind)
    let still := { s.still with inputs := s.inputs.set i { s.inputs[i] with level := true, timer := .stopped } }
    ∃ t, exec (.debounceExpiry i encoder) s = .next t ∧
      (kind ≠ some k → n ≤ 65535 →
        t.still = { still with adopted := some { number := n, issuer := s.own, kind := k }, counter := n } ∧
        t.placed .demand
          { sender := byteOf s.own, seq := s.former.sequence, body := .demand k.code (BitVec.ofNat 16 n) }) ∧
      (kind = some k → t.still = still) ∧
      (kind ≠ some k → 65535 < n → t.still = { still with exhausted := true })

/-- The desk's HALT (GI5) and RESUME (GI6) buttons (R118, R116): a press of HALT latches OPERATOR and forms a HALT with
that reason (code 10), latched before or not; a press of RESUME clears the desk's halt record as a taken RESUME does and
forms a RESUME under the desk's halt mask. That the HALT and the RESUME take the sequence number before that of the
STATUS of the same event is log entry 11, and that the RESUME is formed also under an empty mask is log entry 28. -/
def Obligations.DeskHaltAndResume : Prop :=
  ∀ (s : State) (encoder : Option Word16), s.isRunning = true → s.role = .desk → 1 ≤ s.own → s.own ≤ 30 →
    (s.inputs[4].timer.due s.clock = true → s.inputs[4].candidate = true → s.inputs[4].level = false →
      ∃ t, exec (.debounceExpiry 4 encoder) s = .next t ∧ causeHas t.halt.latched .operator = true ∧
        (s.halt.has .operator = false → maskHas t.halt.origins s.own = true ∧
          (s.halted = false → t.halt.firstOrigin = some s.own ∧ t.halt.firstReason = some (.cause .operator))) ∧
        (s.halt.has .operator = true → t.halt = s.halt) ∧
        (s.cfg.haltMask ≠ 0 → s.noHaltWaiting → s.bothFailed = false →
          t.placed .haltcmd { sender := byteOf s.own, seq := s.former.sequence, body := .halt s.cfg.haltMask 10 })) ∧
    (s.inputs[5].timer.due s.clock = true → s.inputs[5].candidate = true → s.inputs[5].level = false →
      ∃ t, exec (.debounceExpiry 5 encoder) s = .next t ∧
        (s.halt.live = 0 → t.halt = {} ∧ t.halted = false) ∧
        (s.halt.live ≠ 0 → t.halt =
          { s.halt with
            origins := s.halt.origins &&& BitVec.twoPow 32 s.own
            firstOrigin := some s.own
            firstReason := some (.cause (if s.estopInput then .estop else .isolated))
            latched := 0 }) ∧
        (s.noHaltWaiting → s.bothFailed = false →
          t.placed .haltcmd { sender := byteOf s.own, seq := s.former.sequence, body := .resume s.cfg.haltMask }))

/-- The hand key (GI2) of a BARRIER or HOIST (R123, R124, R127): active between steps or while halted it gives HAND,
active in a step that goes on it makes the request PENDING; inactive it cancels a pending request, and from HAND it ends
the hand move, leaves HAND and rebuilds the journal: a barrier's from its limits (R47), a hoist's from its seat, its
locks and the encoder read at this event (R48, R95). A valid reading is recorded as the height, and one at the top makes
RAISE DONE; an invalid one leaves the height, makes RAISE PARTIAL and latches ENCODER. -/
def Obligations.HandKey : Prop :=
  ∀ (s : State) (encoder : Option Word16), s.isRunning = true → s.role = .barrier ∨ s.role = .hoist →
    s.inputs[1].timer.due s.clock = true →
    (s.inputs[1].candidate = true → s.inputs[1].level = false → s.hand.state = .off →
      ∃ t, exec (.debounceExpiry 1 encoder) s = .next t ∧
        (s.seq.step = none ∨ s.halted = true → t.hand.state = .hand) ∧
        (∀ p, s.seq.step = some p → s.halted = false → s.travelCauses = [] → s.completionCondition p.step = false →
          s.seatedEndsStop = false → t.hand.state = .pending ∧ t.seq.step = some p)) ∧
    (s.inputs[1].candidate = false → s.inputs[1].level = true →
      ∃ t, exec (.debounceExpiry 1 encoder) s = .next t ∧ t.hand.state = .off ∧
        (s.hand.state = .hand → t.hand.move = none ∧
          (s.role = .barrier → s.demand.adopted = none → t.seq.step = none ∧
            t.seq.journal = barrierJournal s.clock s.upLimit s.downLimit s.lockedInput) ∧
          (s.role = .hoist →
            t.level.height = (encoder.map (·.toNat)).getD s.level.height ∧
            (encoder = none → causeHas t.halt.latched .encoder = true) ∧
            (s.demand.adopted = none → t.seq.step = none ∧
              (s.seatedInput = true → t.seq.journal =
                if s.locksIn = true ∧ s.locksOut = false then []
                else [{ step := .withdraw,
                        state := if s.locksOut = true ∧ s.locksIn = false then .done else .partway,
                        start := s.clock }]) ∧
              (s.seatedInput = false → t.seq.journal =
                [{ step := .raise,
                   state := if ∃ h, encoder = some h ∧ s.cfg.hTop ≤ h.toNat + s.cfg.stopBand then .done else .partway,
                   start := s.clock },
                 { step := .withdraw, state := .done, start := s.clock }])))))

/-- The hand moves of a BARRIER or HOIST in HAND (R55, R77, R109, R125, R126). HAND_UP (GI3) begins a move up and
HAND_DOWN (GI4) a move down while the other button is inactive and no move is in progress. At a barrier the arm is
driven so, and the move is refused at a halted station, at the limit of its direction, and upward while LOCKED. At a
hoist the drive is enabled, the brake released and the level controller begun, and the move is refused at a halted
station, while a HOIST-flagged entry is not TRACKED, at SEATED downward, and upward at TOP_LIMIT or at SEATED with the
locks not out. A move ends at the release of its button, at the other button, at the limit of its direction, and at a
hoist at the expiry that loses a HOIST-flagged entry; a move that ends begins no other. Which height the level
controller starts from after an invalid reading is log entry 14. -/
def Obligations.HandMovesFollowButtons : Prop :=
  ∀ (s : State) (encoder : Option Word16) (m : HandMove), s.isRunning = true → s.inHand = true → s.seq.step = none →
    let button (d : HandMove) : Fin 16 := match d with | .up => 2 | .down => 3
    let own := button m
    let other := button m.other
    let limit : Fin 16 := if s.role = .barrier then (if m = .up then 4 else 5) else if m = .up then 7 else 4
    let becomes (i : Fin 16) (active : Bool) : Prop :=
      s.inputs[i].timer.due s.clock = true ∧ s.inputs[i].candidate = active ∧ s.inputs[i].level = !active
    let ends (c : Instr) : Prop := ∃ t, exec c s = .next t ∧ t.hand.move = none ∧ t.level.speedRef = 0
    (s.role = .barrier → becomes own true → s.gi other = false → s.hand.move = none →
      let refused : Prop := s.halted = true ∨ s.gi limit = true ∨ m = .up ∧ s.lockedInput = true
      ∃ t, exec (.debounceExpiry own encoder) s = .next t ∧
        (¬refused → t.hand.move = some m ∧ t.armUp = decide (m = .up) ∧ t.armDown = decide (m = .down)) ∧
        (refused → t.hand.move = none)) ∧
    (s.role = .hoist → becomes own true → s.gi other = false → s.hand.move = none →
      let refused : Prop := s.halted = true ∨ s.hoistPeersTracked = false ∨ s.gi limit = true ∨
        m = .up ∧ s.seatedInput = true ∧ s.locksOut = false
      ∃ t, exec (.debounceExpiry own encoder) s = .next t ∧
        (¬refused → t.hand.move = some m ∧ t.driveEnable = true ∧ t.brakeRelease = true ∧
          t.level = { s.level with accumulator := 0, sat := false, startHeight := s.level.expiryHeight, profile := 0 }) ∧
        (refused → t.hand.move = none ∧ t.level = s.level)) ∧
    (s.role = .barrier ∨ s.role = .hoist → s.hand.move = some m →
      (becomes own false → ends (.debounceExpiry own encoder)) ∧
      (becomes other true → ends (.debounceExpiry other encoder)) ∧
      (becomes limit true → ends (.debounceExpiry limit encoder))) ∧
    (s.role = .hoist → s.hand.move = some m → ∀ i : Fin 16,
      s.peers[i].state = .tracked → s.peers[i].flags.getLsbD 5 = true → s.peers[i].deadline.due s.clock = true →
      s.cfg.lostThreshold ≤ min 7 (s.peers[i].deficit + 1) → ends (.deadlineExpiry i))

/-! ### Receiving -/

/-- A failed check, a framing error, a DAMAGED attempt and a silence expiry each raise the link's count by 2, to no more
than 15, and judge its state by R160; only the silence expiry restarts the silence timer (R154, R159). A link that
enters FAILED is emptied, and ISOLATED arises at a station whose second link so fails (R113, R160). That a framing error
leaves the check register as it was is log entry 21. -/
def Obligations.TroubleRaisesHealthCount : Prop :=
  ∀ (s : State) (l : Link) (bytes : List Byte),
    let c := s.link l
    let leads (i : Instr) (still : Still) : Prop :=
      ∃ t, exec i s = .next t ∧ t.still = still ∧
        (c.failed = false → (t.link l).failed = true → (t.link l).silent = true) ∧
        (s.haltFits → s.bothFailed = false → t.bothFailed = true →
          causeHas t.halt.live .isolated = true ∧ maskHas t.halt.origins s.own = true)
    (s.mayReceive l = true → judgeReception bytes = .badCheck →
      leads (.badCheckReception l bytes)
        { (s.setLink l { c.troubled with captured := none }).still with crc := crc (beforeCheck bytes) }) ∧
    (s.mayReceive l = true →
      leads (.framingError l bytes) (s.setLink l { c.troubled with captured := none }).still) ∧
    (s.isRunning = true → c.attempt.isSome = true → leads (.attemptDamaged l) (s.setLink l c.troubled).still) ∧
    (s.isRunning = true → c.silence.due s.clock = true →
      leads (.silenceTimerExpiry l)
        (s.setLink l { c.troubled with silence := .running s.clock s.cfg.linkSilence }).still)

/-- A malformed telegram, a valid reception on a FAILED link and a RECORD are each counted as a valid reception, with
the silence timer restarted, and otherwise discarded: no peer entry, adopted demand or other part of `State.still`
changes (R159, R161). That a RECORD whose sender has a peer entry leaves the entry as it is, is log entry 10; that a
reception on a FAILED link is discarded though its own count ends the FAILED state, log entry 8; that the check register
holds the check over a RECORD's encoded bytes, log entry 21. -/
def Obligations.DiscardedReceptionsAreCounted : Prop :=
  ∀ (s : State) (l : Link), s.mayReceive l = true →
    let counted := (s.setLink l ((s.link l).heard s.clock s.cfg.linkSilence)).still
    (∀ bytes : List Byte, judgeReception bytes = .malformed →
      ∃ t, exec (.malformedTelegram l bytes) s = .next t ∧
        t.still = { counted with crc := crc (beforeCheck bytes) }) ∧
    (∀ bytes : List Byte, (s.link l).failed = true → validReception bytes = true →
      ∃ t, exec (.failedLinkReception l bytes) s = .next t ∧
        t.still = { counted with crc := crc (beforeCheck bytes) }) ∧
    (∀ (sender seq : Byte) (bytes : List Byte),
      ∃ t, exec (.recordReceived l sender seq bytes) s = .next t ∧
        t.still = { counted with
          crc := crc (encodeTelegram { sender := sender, seq := seq, body := .record bytes }) })

/-- A telegram that carries the own number latches DUP_STATION with the effects of R114, a HALT with its reason (code 9)
among them, and is discarded: no peer entry and no adopted demand changes (R113, R161). That the HALT takes the sequence
number before that of the STATUS of the same event is log entry 11, and that the check register holds the check over the
telegram's encoded bytes, log entry 21. -/
def Obligations.OwnNumberLatchesDupStation : Prop :=
  ∀ (s : State) (l : Link) (bytes : List Byte) (tel : Telegram),
    s.mayReceive l = true → (s.link l).failed = false → s.linksFit →
    judgeReception bytes = .valid tel → tel.sender.toNat = s.own → s.halt.has .dupStation = false →
    ∃ t, exec (.ownNumberTelegram l bytes) s = .next t ∧
      t.still = { (s.setLink l ((s.link l).heard s.clock s.cfg.linkSilence)).still with
        crc := crc (encodeTelegram tel) } ∧
      causeHas t.halt.latched .dupStation = true ∧ maskHas t.halt.origins s.own = true ∧
      (s.halted = false → t.halt.firstOrigin = some s.own ∧ t.halt.firstReason = some (.cause .dupStation)) ∧
      (s.cfg.haltMask ≠ 0 → s.noHaltWaiting → s.calm →
        t.placed .haltcmd { sender := byteOf s.own, seq := s.former.sequence, body := .halt s.cfg.haltMask 9 })

/-- A STATUS accepted by its sender's entry is recorded with the end of its reception, the flash phase captured at its
start and its link (R5), the tracking rules are applied (R8 to R13), PEER_CONFIG is set at a wrong role, and the flash
phase is corrected if the entry is then the reference (R131, R132). The echo of an entry that is then TRACKED is adopted
when its issuer is in the desk set, its kind is OPEN or CLOSE, its number is not 0 and its identity is greater than the
adopted one; otherwise the adopted demand stays (R14, R25, R26). The other parts of `State.still` stay as they are. A
STATUS of a TRACKED entry that carries HOIST halts a hoist in travel: by PEER_HALT when it reports halted or HAND, and
by PEER_LOST when its role does not fit (R87, R88); that the HALT takes the sequence number before that of the STATUS is
log entry 11. Where no RECEPTION_START came before, the captured phase is the present one by the model's choice, log
entry 7; that the check register holds the check over the telegram's encoded bytes is log entry 21. -/
def Obligations.StatusIsRecordedAndTracked : Prop :=
  ∀ (s : State) (l : Link) (sender seq : Byte) (body : StatusBody) (i : Fin 16),
    s.mayReceive l = true → (s.link l).failed = false → 1 ≤ sender.toNat → sender.toNat ≤ 31 →
    sender.toNat ≠ s.own → s.entryOf sender.toNat = some i → s.peers[i].accepts seq = true →
    let p := s.peers[i]
    let captured := ((s.link l).captured).getD (s.lamps.phase.getD 0)
    let r : PeerEntry :=
      { p with
        lastSeq := some seq
        report := some { body := body, receipt := s.clock, captured := captured, link := l } }
    let fits : Bool := roleOf body.role == some p.role
    let q : PeerEntry :=
      if p.state = .mismatch then r
      else if fits = false then { r with state := .mismatch, deadline := .stopped }
      else if p.state = .tracked then
        { r with deficit := p.deficit - 1, deadline := .running s.clock s.cfg.peerDeadline }
      else if p.state = .acquiring then
        { r with
          state := if p.lastSeq = some (seq - 1) then .tracked else .acquiring
          deadline := .running s.clock s.cfg.peerDeadline }
      else { r with state := .acquiring, deficit := 0, deadline := .running s.clock s.cfg.peerDeadline }
    ∃ t, exec (.statusReceived l sender seq body) s = .next t ∧
      t.still = { (s.setLink l ((s.link l).heard s.clock s.cfg.linkSilence)).still with
        crc := crc (encodeTelegram { sender := sender, seq := seq, body := .status body })
        peers := s.peers.set i q
        peerConfig := s.peerConfig || !fits
        adopted := t.demand.adopted
        phase := t.lamps.phase } ∧
      (q.state ≠ .tracked ∨ body.echo = none → t.demand.adopted = s.demand.adopted) ∧
      (∀ e, body.echo = some e → q.state = .tracked →
        let greater : Prop :=
          ∀ a, s.demand.adopted = some a →
            a.number < e.number.toNat ∨ a.number = e.number.toNat ∧ a.issuer < e.issuer.toNat
        (∀ k, demandKindOf e.kind = some k → e.issuer.toNat ∈ s.cfg.deskSet → e.number ≠ 0 → greater →
          t.demand.adopted = some { number := e.number.toNat, issuer := e.issuer.toNat, kind := k }) ∧
        (demandKindOf e.kind = none ∨ e.issuer.toNat ∉ s.cfg.deskSet ∨ e.number = 0 ∨ ¬greater →
          t.demand.adopted = s.demand.adopted)) ∧
      (s.linksFit → p.state = .tracked → p.flags.getLsbD 5 = true →
        (fits = true → body.halt ≠ none ∨ body.hand = true → s.travelsFreely .peerHalt →
          s.travelHaltedBy t .peerHalt 8) ∧
        (fits = false → body.halt = none → body.hand = false → s.travelsFreely .peerLost →
          s.travelHaltedBy t .peerLost 7)) ∧
      (t.leader ≠ some p.station → t.lamps.phase = s.lamps.phase) ∧
      (t.leader = some p.station → t.lamps.phase = (s.correctPhase body.stamp.toNat captured).lamps.phase)

/-- The judgement of a sequence number and a copy judged old (R3, R4): in ACQUIRING, TRACKED and MISMATCH the numbers 1
to 127 ahead of L, modulo 256, are accepted, in UNKNOWN and LOST every number; a telegram of any kind that is not
accepted is counted for the link and leaves every entry and the adopted demand as they were, and, where the links are
kept as section 10.5 keeps them, a QUERY the RECORD slots and a HALT or a RESUME the halt record of a station at which
no reaction halts. That the check register holds the check over the telegram's encoded bytes is log entry 21. -/
def Obligations.OldCopiesAreDiscarded : Prop :=
  (∀ (p : PeerEntry) (last seq : Byte), p.lastSeq = some last →
    (p.state = .acquiring ∨ p.state = .tracked ∨ p.state = .mismatch →
      (p.accepts seq = true ↔
        1 ≤ (seq.toNat + 256 - last.toNat) % 256 ∧ (seq.toNat + 256 - last.toNat) % 256 ≤ 127))) ∧
  (∀ (p : PeerEntry) (seq : Byte), p.state = .unknown ∨ p.state = .lost → p.accepts seq = true) ∧
  ∀ (s : State) (l : Link) (tel : Telegram) (i : Fin 16),
    s.mayReceive l = true → (s.link l).failed = false → tel.sender.toNat ≠ s.own →
    s.entryOf tel.sender.toNat = some i → s.peers[i].accepts tel.seq = false →
    ∃ t, exec (telegramCommand l tel) s = .next t ∧
      t.still = { (s.setLink l ((s.link l).heard s.clock s.cfg.linkSilence)).still with
        crc := crc (encodeTelegram tel) } ∧
      (s.linksFit → t.linkA.record = s.linkA.record ∧ t.linkB.record = s.linkB.record) ∧
      (s.linksFit → s.calm → t.halt = s.halt)

/-- A DEMAND from a sender without an entry, or accepted by its entry, is adopted when its sender is in the desk set,
its kind is OPEN or CLOSE, its number is not 0 and its identity is greater than the adopted one; otherwise the adopted
demand stays. In ACQUIRING, TRACKED and MISMATCH the entry takes the number as its L; nothing else of `State.still`
changes but the link's count (R5, R24, R26) and the check register, which holds the check over the telegram's encoded
bytes (log entry 21). -/
def Obligations.DemandIsAdoptedWhenGreater : Prop :=
  ∀ (s : State) (l : Link) (sender seq code : Byte) (number : Word16),
    s.mayReceive l = true → (s.link l).failed = false → 1 ≤ sender.toNat → sender.toNat ≤ 31 →
    sender.toNat ≠ s.own → (∀ i, s.entryOf sender.toNat = some i → s.peers[i].accepts seq = true) →
    let greater : Prop :=
      ∀ a, s.demand.adopted = some a →
        a.number < number.toNat ∨ a.number = number.toNat ∧ a.issuer < sender.toNat
    ∃ t, exec (.demandReceived l sender seq code number) s = .next t ∧
      t.still = { (s.setLink l ((s.link l).heard s.clock s.cfg.linkSilence)).still with
        crc := crc (encodeTelegram { sender := sender, seq := seq, body := .demand code number })
        peers := t.peers
        adopted := t.demand.adopted } ∧
      (∀ k, demandKindOf code = some k → sender.toNat ∈ s.cfg.deskSet → number ≠ 0 → greater →
        t.demand.adopted = some { number := number.toNat, issuer := sender.toNat, kind := k }) ∧
      (demandKindOf code = none ∨ sender.toNat ∉ s.cfg.deskSet ∨ number = 0 ∨ ¬greater →
        t.demand.adopted = s.demand.adopted) ∧
      (s.entryOf sender.toNat = none → t.peers = s.peers) ∧
      (∀ i, s.entryOf sender.toNat = some i →
        t.peers =
          if s.peers[i].state = .acquiring ∨ s.peers[i].state = .tracked ∨ s.peers[i].state = .mismatch then
            s.peers.set i { s.peers[i] with lastSeq := some seq }
          else s.peers)

/-- A reversal stops travel (R27, R34, R43, R60, R85). A demand of the other kind adopted from a DEMAND of a sender
without an entry, or from the echo of a TRACKED peer's STATUS, ends a barrier's LOWER or RAISE, its arm drive released,
and brings a hoist's RAISE or LOWER into its stopping stage, with the drive still enabled and the brake released: CLOSE
over OPEN stops a LOWER of a barrier and a RAISE of a hoist, OPEN over CLOSE the inverse of each. The inverse or the
re-run of the stopped step is not begun at the reversal, though its start conditions hold. Asked of states whose journal
is kept as `StepKeepsJournal` states it. -/
def Obligations.ReversalStopsTravel : Prop :=
  ∀ (s : State) (l : Link) (sender seq : Byte) (body : StatusBody) (a d : Demand),
    s.mayReceive l = true → (s.link l).failed = false → s.linksFit → s.journalKept → 1 ≤ sender.toNat →
    sender.toNat ≤ 30 → sender.toNat ≠ s.own → d.issuer ∈ s.cfg.deskSet → d.issuer ≤ 255 → d.number ≤ 65535 →
    s.demand.adopted = some a → a.kind ≠ d.kind → a.number < d.number → s.halted = false →
    let dir : Direction := if a.kind = .openBridge then .forward else .inverse
    let stopped (t : State) : Prop :=
      t.demand.adopted = some d ∧
      (s.role = .barrier → s.doing .lower dir = true → s.hand.move = none →
        t.seq.step = none ∧ t.armDown = false ∧ t.armUp = false) ∧
      (s.role = .hoist → s.doing .raise dir = true → s.travelCauses = [] →
        (a.kind = .closeBridge → s.seatedInput = false) →
        t.seq.stopping = true ∧ t.doing .raise dir = true ∧ t.phase = .stopping ∧ t.driveEnable = true ∧
          t.brakeRelease = true)
    (s.entryOf sender.toNat = none → sender.toNat = d.issuer →
      ∃ t, exec (.demandReceived l sender seq d.kind.code (BitVec.ofNat 16 d.number)) s = .next t ∧ stopped t) ∧
    (∀ i, s.entryOf sender.toNat = some i → s.peers[i].state = .tracked → s.peers[i].accepts seq = true →
      roleOf body.role = some s.peers[i].role → body.halt = none → body.hand = false →
      body.echo =
        some { issuer := byteOf d.issuer, number := BitVec.ofNat 16 d.number, kind := d.kind.code } →
      ∃ t, exec (.statusReceived l sender seq body) s = .next t ∧ stopped t)

/-- A HALT from a sender without an entry, or accepted by its entry, whose mask names the own number adds its sender to
the origins; at a station not halted it becomes the first origin, with the reason the code names (any unassigned code
OTHER), and brings motion to rest. A HALT whose mask does not name the own number leaves the halt record of a calm
station as it is (R112, R115, R119). -/
def Obligations.HaltAddsItsSender : Prop :=
  ∀ (s : State) (l : Link) (sender seq : Byte) (mask : StationMask) (code : Byte),
    s.mayReceive l = true → (s.link l).failed = false → s.linksFit → s.motionFits →
    1 ≤ sender.toNat → sender.toNat ≤ 31 → sender.toNat ≠ s.own →
    (∀ i, s.entryOf sender.toNat = some i → s.peers[i].accepts seq = true) →
    ∃ t, exec (.haltReceived l sender seq mask code) s = .next t ∧
      (maskHas mask s.own = true → s.halted = false →
        t.halt = { s.halt with
          origins := BitVec.twoPow 32 sender.toNat
          firstOrigin := some sender.toNat
          firstReason := some (haltReasonOf code) } ∧
        t.halted = true ∧ t.atRest = true ∧ t.seq.step = none ∧ t.hand.move = none) ∧
      (maskHas mask s.own = true → s.halted = true →
        t.halt = { s.halt with origins := s.halt.origins ||| BitVec.twoPow 32 sender.toNat }) ∧
      (maskHas mask s.own = false → s.calm → t.halt = s.halt)

/-- A RESUME from a desk-set member that names the own number removes every latched cause and empties the origins, but
for the own number while a live cause is present, which then becomes the first origin with that cause as the reason; a
station so resumed drops its interrupted step. Any other RESUME is ignored (R116, R122). -/
def Obligations.ResumeClearsHaltRecord : Prop :=
  ∀ (s : State) (l : Link) (sender seq : Byte) (mask : StationMask),
    s.mayReceive l = true → (s.link l).failed = false → s.linksFit → s.calm →
    1 ≤ sender.toNat → sender.toNat ≤ 31 → sender.toNat ≠ s.own →
    (∀ i, s.entryOf sender.toNat = some i → s.peers[i].accepts seq = true) →
    let taken : Prop := sender.toNat ∈ s.cfg.deskSet ∧ maskHas mask s.own = true
    ∃ t, exec (.resumeReceived l sender seq mask) s = .next t ∧
      (taken → s.halt.live = 0 → t.halt = {} ∧ t.halted = false ∧
        (s.halted = true → s.seq.step = none → t.seq.interrupted = none)) ∧
      (taken → s.halt.live ≠ 0 → t.halt =
        { s.halt with
          origins := s.halt.origins &&& BitVec.twoPow 32 s.own
          firstOrigin := some s.own
          firstReason := some (.cause (if s.estopInput then .estop else .isolated))
          latched := 0 }) ∧
      (¬taken → t.halt = s.halt)

/-- A QUERY from station 31 that names the own number forms one RECORD, with the next sequence number, that carries the
snapshot of the station as it stands at the event, its reception counted; any other QUERY leaves the RECORD slots as
they are. Neither changes anything else of `State.still` than the link's count (R162). That the reception of the QUERY
is already counted in the snapshot is log entry 28, that the RECORD takes the sequence number before that of the STATUS
of the same event is log entry 11, and that the check register holds the check over the QUERY's encoded bytes is log
entry 21. -/
def Obligations.QueryFormsRecord : Prop :=
  ∀ (s : State) (l : Link) (sender seq target : Byte),
    s.mayReceive l = true → (s.link l).failed = false → s.linksFit → 1 ≤ sender.toNat → sender.toNat ≤ 31 →
    sender.toNat ≠ s.own → s.entryOf sender.toNat = none →
    ∃ t, exec (.queryReceived l sender seq target) s = .next t ∧
      t.still = { (s.setLink l ((s.link l).heard s.clock s.cfg.linkSilence)).still with
        crc := crc (encodeTelegram { sender := sender, seq := seq, body := .query target }) } ∧
      (sender = 31 → target.toNat = s.own →
        t.placed .record
          { sender := byteOf s.own, seq := s.former.sequence, body := .record (s.countValid l).recordBody }) ∧
      (sender ≠ 31 ∨ target.toNat ≠ s.own → t.linkA.record = s.linkA.record ∧ t.linkB.record = s.linkB.record)

/-! ### Sending -/

/-- How a link becomes busy. A reception that begins while the link sends nothing takes the own flash phase, and changes
nothing else (R159). A link that becomes idle begins an attempt with the telegram of its highest slot, in the order
HALTCMD, DEMAND, STATUS, RECORD; a STATUS is stamped with the flash phase, the check is computed over the bytes so
completed, and nothing else changes (R154, R158). -/
def Obligations.ReceptionsAndAttemptsBegin : Prop :=
  (∀ (s : State) (l : Link) (p : Nat), s.mayReceive l = true → s.lamps.phase = some p →
    exec (.receptionStart l) s = .next (s.setLink l { s.link l with captured := some p })) ∧
  ∀ (s : State) (l : Link) (k : SlotKind) (tel : Telegram),
    let c := s.link l
    s.isRunning = true → c.failed = false → c.attempt = none → c.captured = none → c.slot k = some tel →
    (k = .haltcmd ∨ c.haltcmd = none) → (k = .haltcmd ∨ k = .demand ∨ c.demand = none) →
    (k ≠ .record ∨ c.status = none) →
    let phase := s.lamps.phase.getD 0
    let sent : Telegram :=
      match tel.body with
      | .status b => { tel with body := .status { b with stamp := BitVec.ofNat 16 phase } }
      | _ => tel
    let a : Attempt := { telegram := sent, slot := k, refilled := false, phase := phase }
    exec (.attemptBegin l) s = .next
      { s.setLink l { c with attempt := some a } with crc := crc (encodeTelegram sent) }

/-- The ends of an attempt (R154, R155, R159). SENT lowers the count by 1; the telegram leaves its slot, unless the slot
has been filled anew since the attempt began (a STATUS slot may be filled again by the STATUS of this very event).
LOST_CONTENTION keeps the slot and the count, and the winning telegram is being received since the attempt began. -/
def Obligations.AttemptEnds : Prop :=
  ∀ (s : State) (l : Link) (a : Attempt), s.isRunning = true → (s.link l).attempt = some a →
    let c := s.link l
    (∃ t, exec (.attemptSent l) s = .next t ∧
      t.still = (s.setLink l { c with health := c.health - 1, state := c.state.judge (c.health - 1) }).still ∧
      (t.link l).attempt = none ∧
      (s.linksFit → s.calm → a.slot ≠ .status →
        (t.link l).slot a.slot = if a.refilled then c.slot a.slot else none) ∧
      (s.linksFit → s.calm → a.slot = .status → a.refilled = false →
        t.former.sequence = s.former.sequence → (t.link l).status = none)) ∧
    exec (.attemptLostContention l) s = .next (s.setLink l { c with attempt := none, captured := some a.phase })

/-- The STATUS former (R70, R158). At the period expiry, and at the gap expiry with the change-pending flag set, a
STATUS with the next sequence number is formed from the station's fields as they stand and placed on every link that is
not FAILED; the period timer is restarted, the gap timer started, and the zone occupancy flag taken anew. At a gap
expiry without the flag nothing is formed. While both links are FAILED none is formed (that its timers then stay stopped
is the model's choice, log entry 25). -/
def Obligations.StatusIsFormedAtExpiries : Prop :=
  ∀ s : State, s.isRunning = true →
    let tel : Telegram := { sender := byteOf s.own, seq := s.former.sequence, body := .status s.statusBody }
    let forms (i : Instr) : Prop :=
      ∃ t, exec i s = .next t ∧ t.still = s.still ∧ t.placed .status tel ∧
        t.former.sequence = s.former.sequence + 1 ∧ t.former.period = .running s.clock s.cfg.statusPeriod ∧
        t.former.gap = .running s.clock 10 ∧ t.zoneFlag = s.zoneOccupied ∧
        (t.former.changePending = true ↔ s.hasDetectors = true ∧ t.zoneReport ≠ s.zoneReport) ∧
        t.seq = s.seq ∧ t.demand = s.demand ∧ t.halt = s.halt ∧ t.hand = s.hand ∧ t.lamps = s.lamps ∧
        t.level = s.level
    (s.former.period.due s.clock = true →
      (s.bothFailed = false → forms .statusPeriodExpiry) ∧
      (s.bothFailed = true →
        exec .statusPeriodExpiry s = .next { s with former := { s.former with period := .stopped } })) ∧
    (s.former.gap.due s.clock = true →
      (s.bothFailed = false → s.former.changePending = true → forms .gapTimerExpiry) ∧
      (s.bothFailed = true ∨ s.former.changePending = false →
        exec .gapTimerExpiry s = .next { s with former := { s.former with gap := .stopped } }))

/-! ### Timers -/

/-- The deadline expiry (R10, R12): a TRACKED entry's deficit rises by 1, to no more than 7, and the entry is LOST, with
L absent and the timer stopped, when it has reached LOST_THRESHOLD, else its timer is restarted; an ACQUIRING entry
returns to UNKNOWN. The copy and its companions stay, and so does the rest of `State.still`. An entry that carries HOIST
and is so lost in a hoist's travel latches PEER_LOST and halts it (R87); that the HALT takes the sequence number before
that of the STATUS of the same event is log entry 11. -/
def Obligations.DeadlineExpiryCounts : Prop :=
  ∀ (s : State) (i : Fin 16), s.isRunning = true → s.peers[i].deadline.due s.clock = true →
    let p := s.peers[i]
    let d := min 7 (p.deficit + 1)
    let leads (q : PeerEntry) : Prop :=
      ∃ t, exec (.deadlineExpiry i) s = .next t ∧ t.still = { s.still with peers := s.peers.set i q }
    (p.state = .tracked → d < s.cfg.lostThreshold →
      leads { p with deficit := d, deadline := .running s.clock s.cfg.peerDeadline }) ∧
    (p.state = .tracked → s.cfg.lostThreshold ≤ d →
      leads { p with state := .lost, lastSeq := none, deficit := d, deadline := .stopped } ∧
      (p.flags.getLsbD 5 = true → s.travelsFreely .peerLost →
        ∃ t, exec (.deadlineExpiry i) s = .next t ∧ s.travelHaltedBy t .peerLost 7)) ∧
    (p.state = .acquiring →
      leads { p with state := .unknown, lastSeq := none, deficit := 0, deadline := .stopped })

/-- The stall expiry sets DEMAND_STALL in the fault set (R33), the prewarn expiry makes the hold COMPLETE (R56), and the
T_clear expiry makes the clearance evidence PROVEN, so that CLEAR is true (R19, R72): each while its condition holds,
and with nothing of `State.still` changed. The step that waits on the hold or on CLEAR begins at the same event exactly
when its other start conditions hold (R40, R57, R78): LOWER under AGREED on OPEN, at an EXIT barrier also under
ENTRY_DOWN and CLEAR, and WITHDRAW under AGREED on OPEN and BARRIERS_DOWN. -/
def Obligations.SupervisingTimersExpire : Prop :=
  ∀ s : State, s.isRunning = true →
    let waits (k : ForwardStep) : Prop :=
      s.hand.state = .off ∧ s.halted = false ∧ s.seq.step = none ∧ s.seq.stopping = false ∧ s.seq.journal = [] ∧
        s.adoptedKind = some .openBridge ∧ s.completionCondition { kind := k, dir := .forward } = false
    (s.demand.stallTimer.due s.clock = true → s.demand.adopted.isSome = true → s.permissive .agreed = false →
      ∃ t, exec .stallTimerExpiry s = .next t ∧ t.still = s.still ∧ t.demand.stalled = true ∧
        t.demand.stallTimer = .stopped ∧ t.hasFault .demandStall = true) ∧
    (s.barrier.timer.due s.clock = true → s.role = .barrier → s.permissive .warn = true →
      ∃ t, exec .prewarnTimerExpiry s = .next t ∧ t.still = s.still ∧
        t.barrier = { hold := .complete, timer := .stopped } ∧
        (waits .lower →
          (t.doing .lower .forward = true ↔ s.permissive .agreed = true ∧
            (s.cfg.barrierKind = .exit → s.permissive .entryDown = true ∧ t.permissive .clear = true)))) ∧
    (s.clearance.timer.due s.clock = true → s.holdsEvidence = true → s.evidenceBroken = false →
      ∃ t, exec .tClearExpiry s = .next t ∧ t.still = s.still ∧
        t.clearance = { evidence := .proven, timer := .stopped } ∧ t.permissive .clear = true ∧
        (s.role = .barrier → waits .lower →
          (t.doing .lower .forward = true ↔
            s.permissive .agreed = true ∧ t.barrier.hold = .complete ∧ s.permissive .entryDown = true)) ∧
        (s.role = .hoist → waits .withdraw →
          (t.doing .withdraw .forward = true ↔
            s.permissive .agreed = true ∧ s.permissive .barriersDown = true)))

/-- The prewarn hold and the clearance evidence follow what they are formed from (R19, R56, R72), at the end of any
event, `State.conclude`, that leaves the station in the state `s`. At a barrier, WARN makes an absent hold RUNNING with
T_prewarn and leaves any other as it is, and its fall makes the hold ABSENT. At an EXIT barrier and a hoist the evidence
is broken while no entry carries DETECT, an entry that carries it contributes no clear zone, or an own detector is
occupied or faulted: broken, it is BROKEN; otherwise a BROKEN one becomes TIMING with T_clear and any other is left as
it is. Elsewhere it is BROKEN. CLEAR is true exactly while it is PROVEN. The DETECTOR fault is present exactly while the
own detectors are faulted or a TRACKED entry that carries DETECT reports FAULT (R74). -/
def Obligations.WarnAndEvidenceAreFollowed : Prop :=
  ∀ before s : State, s.isRunning = true →
    let t := State.conclude before s
    let detects (i : Fin 16) : Prop := s.peers[i].state ≠ .vacant ∧ s.peers[i].flags.getLsbD 4 = true
    let zone (i : Fin 16) (said : StatusBody → Prop) : Prop :=
      s.peers[i].state = .tracked ∧ ∃ r, s.peers[i].report = some r ∧ said r.body
    let enabled (k : Fin 4) : Prop :=
      (s.role = .barrier ∨ s.role = .signal) ∧ s.cfg.detectorMask.getLsbD k.val = true
    let occupied : Prop := enabled 0 ∧ s.gi 8 = true ∨ enabled 1 ∧ s.gi 9 = true ∨ enabled 2 ∧ s.gi 10 = true ∨
      enabled 3 ∧ s.gi 11 = true
    let faulted : Prop := (∃ k, enabled k) ∧ s.gi 12 = true
    let broken : Prop := (∀ i, ¬detects i) ∨
      (∃ i, detects i ∧ ¬zone i fun b => b.hand = false ∧ b.zone = some 0) ∨ occupied ∨ faulted
    let held : Prop := s.role = .barrier ∧ s.cfg.barrierKind = .exit ∨ s.role = .hoist
    (s.role = .barrier →
      (s.permissive .warn = true → s.barrier.hold = .absent →
        t.barrier = { hold := .running, timer := .running s.clock (1000 * s.cfg.tPrewarn) }) ∧
      (s.permissive .warn = true → s.barrier.hold ≠ .absent → t.barrier = s.barrier) ∧
      (s.permissive .warn = false → t.barrier = { hold := .absent, timer := .stopped })) ∧
    (¬held ∨ broken → t.clearance = { evidence := .broken, timer := .stopped }) ∧
    (held → ¬broken → s.clearance.evidence = .broken →
      t.clearance = { evidence := .timing, timer := .running s.clock (1000 * s.cfg.tClear) }) ∧
    (held → ¬broken → s.clearance.evidence ≠ .broken → t.clearance = s.clearance) ∧
    (t.permissive .clear = true ↔ t.clearance.evidence = .proven) ∧
    (t.hasFault .detector = true ↔ faulted ∨ ∃ i, detects i ∧ zone i fun b => b.zone = some 2)

/-- The supervision expiry (R42, R113, R114): the step ends without completion and its journal entry stays; STEP_TIME is
latched, the station halted with motion at rest, and a HALT with that reason (code 3) formed. That the HALT takes the
sequence number before that of the STATUS of the same event is log entry 11. -/
def Obligations.SupervisionExpiryHalts : Prop :=
  ∀ (s : State) (p : StepInProgress),
    s.isRunning = true → s.seq.supervision.due s.clock = true → s.seq.step = some p → s.halted = false →
    s.halt.has .stepTime = false → 1 ≤ s.own → s.own ≤ 30 → s.inRecovery = false →
    ∃ t, exec .supervisionExpiry s = .next t ∧ t.still = s.still ∧ t.seq.step = none ∧
      t.seq.stopping = false ∧ t.seq.supervision = .stopped ∧ t.seq.journal = s.seq.journal ∧ t.atRest = true ∧
      t.halt = { s.halt with
        origins := BitVec.twoPow 32 s.own
        firstOrigin := some s.own
        firstReason := some (.cause .stepTime)
        latched := causeAdd s.halt.latched .stepTime } ∧
      (s.cfg.haltMask ≠ 0 → s.noHaltWaiting → s.bothFailed = false →
        t.placed .haltcmd { sender := byteOf s.own, seq := s.former.sequence, body := .halt s.cfg.haltMask 3 })

/-- How the steps begin and complete (R40, R41, R57 to R59, R63 to R65, R78, R79, R81 to R84, R91 to R93), at the end of
any event, `State.conclude`, that leaves the station in the state `s`. A candidate whose end is not reached yet, at a
station free to begin it, is begun exactly when its start conditions hold, and a step in progress completes exactly when
its completion condition holds: a forward step's entry is then DONE, an inverse's is gone, and a step that does not
complete goes on. A non-travel step runs on to its completion under the other kind too, and the step that then follows
under that kind begins at the same event if its start conditions hold. A travel step that begins with TOP_LIMIT active
or a hoist peer that reports halted or HAND is halted at its beginning, by OVERTRAVEL or PEER_HALT. That a LOWER begun
below the seat meets OVERTRAVEL only at its next control period expiry is log entry 40. DRIVE_ENABLE is kept from the
completion of a LOWER into the DRIVE_IN that begins at the same event and until that ends, and a DRIVE_IN begun at any
other event does not enable the drive (R79). RED_OFF and AMBER_OFF complete as they begin. A GREEN in progress is
abandoned for GREEN_OFF at the loss of HOISTS_TOP, whatever the demand, its entry PARTIAL (R45, R92). At a reversal that
stops a travel step no travel step begins (R34). That GREEN's held condition is judged on its level, GREEN_OFF being
begun exactly while HOISTS_TOP is false and GREEN is DONE and not forced on a PARTIAL entry, is log entry 13; that no
other event holds a step back is log entry 33, and that a skew not yet formed counts as 0 at a span without hoist peers,
and allows no travel elsewhere, log entry 34. -/
def Obligations.StepsBeginAndComplete : Prop :=
  ∀ before s : State, s.isRunning = true → s.inRecovery = false →
    let t := State.conclude before s
    let top (k : ForwardStep) (e : EntryState) : Prop :=
      s.seq.journal.head?.map (·.step) = some k ∧ s.seq.journal.head?.map (·.state) = some e
    let hoistPeer (i : Fin 16) : Prop := s.peers[i].state ≠ .vacant ∧ s.peers[i].flags.getLsbD 5 = true
    let skewFits : Prop :=
      (s.level.skewFull = true ∧ ∃ k, s.level.skew = some k ∧ k ≤ s.cfg.skewWarn) ∨
        s.level.skew = none ∧ ∀ i, ¬hoistPeer i
    let peerStopped : Prop :=
      ∃ i, hoistPeer i ∧ ∃ r, s.peers[i].report = some r ∧ (r.body.halt ≠ none ∨ r.body.hand = true)
    let mayTravel : Prop := s.hoistPeersTracked = true ∧ ¬peerStopped
    let stopped : Prop := before.adoptedKind ≠ none ∧ before.adoptedKind ≠ s.adoptedKind ∧
      ∃ p, before.seq.step = some p ∧ (p.step.kind = .lower ∨ p.step.kind = .raise)
    let completes (k : ForwardStep) (d : Direction) (met : Prop) : Prop :=
      s.doing k d = true → s.seq.stopping = false → s.travelCauses = [] →
      s.adoptedKind = some (if d = .forward then .openBridge else .closeBridge) →
      ∀ e rest, s.seq.journal = e :: rest → e.step = k → e.state = .partway → (∀ x ∈ rest, x.step ≠ k) →
        (met → (d = .forward → { e with state := .done } ∈ t.seq.journal) ∧
          (d = .inverse → ∀ x ∈ t.seq.journal, x.step ≠ k)) ∧
        (¬met → t.seq.step = s.seq.step ∧ t.seq.journal = s.seq.journal)
    let runsOn (st : Step) (met follows : Prop) (next : Step) (nextMet : Prop) : Prop :=
      s.stepNow = some st → s.seq.stopping = false → s.hand.state = .off → s.halted = false → s.journalKept →
      s.adoptedKind = some (if st.dir = .forward then .closeBridge else .openBridge) →
      ∀ e rest, s.seq.journal = e :: rest →
        (¬met → t.seq.step = s.seq.step ∧ t.seq.journal = s.seq.journal) ∧
        (met → ¬follows → t.seq.step = none ∧
          t.seq.journal = if st.dir = .forward then { e with state := .done } :: rest else rest) ∧
        (met → follows → ¬nextMet → t.seq.step = some { step := next, begun := s.clock })
    let haltedAt (c : LocalCause) (dir : Direction) : Prop :=
      s.halt.has c = false → 1 ≤ s.own → s.own ≤ 30 →
        t.halted = true ∧ causeHas t.halt.latched c = true ∧ t.halt.firstReason = some (.cause c) ∧
          t.seq.step = none ∧ t.seq.interrupted = some { kind := .raise, dir := dir } ∧ t.atRest = true ∧
          t.seq.journal.head? = some { step := .raise, state := .partway, start := s.clock }
    (stopped → s.seq.step = none → ∀ p, t.seq.step = some p → p.step.kind ≠ .lower ∧ p.step.kind ≠ .raise) ∧
    (s.hand.state = .off → s.halted = false → s.seq.step = none → s.seq.stopping = false → ¬stopped →
      (s.adoptedKind = some .openBridge →
        (s.role = .barrier → s.seq.journal = [] ∨ top .lower .partway → s.downLimit = false →
          (t.doing .lower .forward = true ↔ s.permissive .agreed = true ∧ t.barrier.hold = .complete ∧
            (s.cfg.barrierKind = .exit → s.permissive .entryDown = true ∧ t.permissive .clear = true))) ∧
        (s.role = .barrier → top .lower .done ∨ top .lock .partway → s.lockedInput = false →
          t.doing .lock .forward = true) ∧
        (s.role = .hoist → s.seq.journal = [] ∨ top .withdraw .partway → s.locksOut = false →
          (t.doing .withdraw .forward = true ↔
            s.permissive .agreed = true ∧ s.permissive .barriersDown = true ∧ t.permissive .clear = true)) ∧
        (s.role = .hoist → top .withdraw .done ∨ top .raise .partway → mayTravel → s.topLimit = false →
          s.level.height + s.cfg.stopBand < s.cfg.hTop →
          (t.doing .raise .forward = true ↔ (s.hoist.handshake = .readyUp ∨ s.permissive .agreed = true) ∧
            s.permissive .hoistsReadyUp = true ∧ skewFits)) ∧
        (s.role = .hoist → top .withdraw .done ∨ top .raise .partway → s.level.height + s.cfg.stopBand < s.cfg.hTop →
          s.hoist.handshake = .readyUp ∨ s.permissive .agreed = true → s.permissive .hoistsReadyUp = true → skewFits →
          (s.topLimit = true → ¬peerStopped → haltedAt .overtravel .forward) ∧
          (s.topLimit = false → peerStopped → haltedAt .peerHalt .forward)) ∧
        (s.role = .signal → s.seq.journal = [] ∨ top .amber .partway →
          (t.doing .amber .forward = true ↔ s.permissive .agreed = true)) ∧
        (s.role = .signal → top .amber .done ∨ top .red .partway → s.roadRedProven = false →
          t.doing .red .forward = true) ∧
        (s.role = .signal → top .red .done ∨ top .green .partway →
          s.functionProven .marineGreen = false ∨ s.functionCommanded .marineRed = true →
          (t.doing .green .forward = true ↔ s.permissive .hoistsTop = true))) ∧
      (s.adoptedKind = some .closeBridge →
        (s.role = .barrier → top .lock .done ∨ top .lock .partway → s.unlockedInput = false →
          (t.doing .lock .inverse = true ↔ s.permissive .agreed = true ∧ s.permissive .hoistsSeated = true)) ∧
        (s.role = .barrier → top .lower .done ∨ top .lower .partway → s.upLimit = false →
          (t.doing .lower .inverse = true ↔ s.permissive .agreed = true ∧ s.permissive .hoistsSeated = true)) ∧
        (s.role = .hoist → top .raise .done ∨ top .raise .partway → mayTravel → s.seatedInput = false →
          (t.doing .raise .inverse = true ↔
            (s.hoist.handshake = .readyDown ∨ s.permissive .agreed = true ∧ s.permissive .marineRed = true) ∧
              s.permissive .hoistsReadyDown = true ∧ skewFits)) ∧
        (s.role = .hoist → top .raise .done ∨ top .raise .partway → s.seatedInput = false →
          s.hoist.handshake = .readyDown ∨ s.permissive .agreed = true ∧ s.permissive .marineRed = true →
          s.permissive .hoistsReadyDown = true → skewFits → peerStopped → haltedAt .peerHalt .inverse) ∧
        (s.role = .hoist → top .withdraw .done ∨ top .withdraw .partway → s.locksIn = false →
          (t.doing .withdraw .inverse = true ↔ s.seatedInput = true)) ∧
        (s.role = .signal → s.seq.journal.map (·.step) = [.red, .amber] →
          t.seq.step = none ∧ t.seq.journal =
            if s.permissive .agreed = true ∧ s.permissive .barriersUp = true then [] else s.seq.journal) ∧
        (s.role = .signal → s.seq.journal.map (·.step) = [.amber] → t.seq.step = none ∧ t.seq.journal = [])) ∧
      (s.role = .signal → top .green .done ∨ top .green .partway ∧ s.adoptedKind = some .closeBridge →
        s.functionProven .marineRed = false →
        (t.doing .green .inverse = true ↔
          s.adoptedKind = some .closeBridge ∧ s.permissive .agreed = true ∨
            top .green .done ∧ s.permissive .hoistsTop = false))) ∧
    (s.role = .barrier →
      completes .lower .forward (s.downLimit = true) ∧ completes .lock .forward (s.lockedInput = true) ∧
      completes .lock .inverse (s.unlockedInput = true) ∧ completes .lower .inverse (s.upLimit = true)) ∧
    (s.role = .hoist →
      completes .withdraw .forward (s.locksOut = true) ∧
      completes .raise .forward (s.cfg.hTop ≤ s.level.height + s.cfg.stopBand) ∧
      completes .raise .inverse (s.seatedInput = true) ∧ completes .withdraw .inverse (s.locksIn = true)) ∧
    (s.role = .signal →
      completes .red .forward (s.functionProven .roadRedA = true ∧ s.functionProven .roadRedB = true) ∧
      (s.permissive .hoistsTop = true →
        completes .green .forward (s.functionProven .marineGreen = true ∧ s.functionCommanded .marineRed = false)) ∧
      completes .green .inverse (s.functionProven .marineRed = true)) ∧
    (s.role = .barrier →
      runsOn { kind := .lock, dir := .forward } (s.lockedInput = true)
        (s.permissive .agreed = true ∧ s.permissive .hoistsSeated = true)
        { kind := .lock, dir := .inverse } (s.unlockedInput = true) ∧
      runsOn { kind := .lock, dir := .inverse } (s.unlockedInput = true) True
        { kind := .lock, dir := .forward } (s.lockedInput = true)) ∧
    (s.role = .hoist →
      runsOn { kind := .withdraw, dir := .forward } (s.locksOut = true) (s.seatedInput = true)
        { kind := .withdraw, dir := .inverse } (s.locksIn = true) ∧
      runsOn { kind := .withdraw, dir := .inverse } (s.locksIn = true)
        (s.permissive .agreed = true ∧ s.permissive .barriersDown = true ∧ t.permissive .clear = true)
        { kind := .withdraw, dir := .forward } (s.locksOut = true)) ∧
    (s.role = .signal →
      runsOn { kind := .red, dir := .forward }
        (s.functionProven .roadRedA = true ∧ s.functionProven .roadRedB = true)
        (s.permissive .agreed = true ∧ s.permissive .barriersUp = true) { kind := .red, dir := .inverse } True ∧
      (s.stepNow = some { kind := .red, dir := .forward } → s.seq.stopping = false → s.hand.state = .off →
        s.halted = false → s.journalKept → s.adoptedKind = some .closeBridge → s.functionProven .roadRedA = true →
        s.functionProven .roadRedB = true → s.permissive .agreed = true → s.permissive .barriersUp = true →
        t.seq.step = none ∧ t.seq.journal = []) ∧
      (s.permissive .hoistsTop = true →
        runsOn { kind := .green, dir := .forward }
          (s.functionProven .marineGreen = true ∧ s.functionCommanded .marineRed = false)
          (s.permissive .agreed = true) { kind := .green, dir := .inverse } (s.functionProven .marineRed = true)) ∧
      runsOn { kind := .green, dir := .inverse } (s.functionProven .marineRed = true)
        (s.permissive .hoistsTop = true) { kind := .green, dir := .forward }
        (s.functionProven .marineGreen = true ∧ s.functionCommanded .marineRed = false)) ∧
    (s.role = .hoist → s.hand.state = .off → s.hand.move = none → s.halted = false → s.journalKept →
      s.adoptedKind = some .closeBridge → s.seatedInput = true → s.seq.stopping = false →
      (s.doing .raise .inverse = true → s.travelCauses = [] →
        (s.locksIn = false →
          t.seq.step = some { step := { kind := .withdraw, dir := .inverse }, begun := s.clock } ∧
            t.driveEnable = true ∧ t.brakeRelease = false ∧ t.locksPush = true) ∧
        (s.locksIn = true → t.seq.step = none ∧ t.seq.journal = [] ∧ t.driveEnable = false)) ∧
      (s.seq.step = none → top .raise .done ∨ top .raise .partway → ¬stopped → mayTravel → s.locksIn = false →
        s.hoist.handshake = .readyDown ∨ s.permissive .agreed = true ∧ s.permissive .marineRed = true →
        s.permissive .hoistsReadyDown = true → skewFits →
        t.seq.step = some { step := { kind := .withdraw, dir := .inverse }, begun := s.clock } ∧
          t.driveEnable = true ∧ t.brakeRelease = false ∧ t.locksPush = true) ∧
      (s.seq.step = none → top .withdraw .done ∨ top .withdraw .partway → s.locksIn = false →
        t.locksPush = true ∧ t.driveEnable = false ∧ t.brakeRelease = false)) ∧
    (s.role = .hoist → s.hand.move = none → s.halted = false → t.doing .withdraw .inverse = true →
      (s.doing .withdraw .inverse = true → t.driveEnable = s.driveEnable) ∧
      (s.doing .withdraw .forward = true → t.driveEnable = false)) ∧
    (s.role = .signal → s.halted = false → s.doing .green .forward = true → s.permissive .hoistsTop = false →
      ∀ e rest, s.seq.journal = e :: rest → e.step = .green → (∀ x ∈ rest, x.step ≠ .green) →
        t.doing .green .forward = false ∧ t.marineAspect = .red ∧
        (s.functionProven .marineRed = false → t.seq.stopping = false ∧
          t.seq.step = some { step := { kind := .green, dir := .inverse }, begun := s.clock } ∧
          t.seq.journal = { e with state := .partway, start := s.clock } :: rest ∧
          t.seq.supervision = .running s.clock (100 * s.cfg.stepLimits[3])) ∧
        (s.functionProven .marineRed = true → ∀ x ∈ t.seq.journal, x.step ≠ .green))

/-- The amber expiry (R63, R64, R66): AMBER completes and RED begins at the same event, its entry PARTIAL on top, under
the second step limit and with the road aspect RED_FLASH, while an OPEN is held and ROAD_RED is not yet proven. Under a
CLOSE, adopted while AMBER was in progress, AMBER has run to its completion and AMBER_OFF follows at the same event,
which leaves the journal empty and the road DARK (R65). -/
def Obligations.AmberExpiryBeginsRed : Prop :=
  ∀ (s : State) (begun : Time),
    s.isRunning = true → s.role = .signal → s.signal.recovering = false → s.hand.state = .off → s.halted = false →
    s.seq.stopping = false → s.doing .amber .forward = true → s.signal.amberTimer.due s.clock = true →
    s.seq.journal = [{ step := .amber, state := .partway, start := begun }] →
    (s.adoptedKind = some .openBridge → s.roadRedProven = false →
      ∃ t, exec .amberTimerExpiry s = .next t ∧ t.still = s.still ∧
        t.seq.step = some { step := { kind := .red, dir := .forward }, begun := s.clock } ∧
        t.seq.journal =
          [{ step := .red, state := .partway, start := s.clock }, { step := .amber, state := .done, start := begun }] ∧
        t.seq.supervision = .running s.clock (100 * s.cfg.stepLimits[1]) ∧ t.signal.amberTimer = .stopped ∧
        t.roadAspect = .redFlash ∧ t.phase = .roadStopping) ∧
    (s.adoptedKind = some .closeBridge →
      ∃ t, exec .amberTimerExpiry s = .next t ∧ t.still = s.still ∧ t.seq.step = none ∧ t.seq.journal = [] ∧
        t.seq.supervision = .stopped ∧ t.signal.amberTimer = .stopped ∧ t.roadAspect = .dark ∧ t.phase = .idle)

/-- The recovery expiry (R68): recovery ends, and with no demand held the journal is empty if every BARRIER entry is
TRACKED, in RUN and RAISED, and AMBER DONE, RED DONE otherwise. -/
def Obligations.RecoveryExpirySetsJournal : Prop :=
  ∀ s : State, s.isRunning = true → s.role = .signal → s.signal.recovering = true →
    s.signal.recoveryTimer.due s.clock = true → s.demand.adopted = none → s.seq.step = none →
    let open_ : Prop := ∀ i : Fin 16, s.peers[i].state ≠ .vacant → s.peers[i].role = .barrier →
      s.peers[i].state = .tracked ∧ ∃ r, s.peers[i].report = some r ∧ r.body.hand = false ∧ r.body.phase = 0
    ∃ t, exec .recoveryTimerExpiry s = .next t ∧ t.still = s.still ∧ t.signal.recovering = false ∧
      t.signal.recoveryTimer = .stopped ∧ t.seq.step = none ∧
      (open_ → t.seq.journal = []) ∧
      (¬open_ → t.seq.journal =
        [{ step := .red, state := .done, start := s.clock }, { step := .amber, state := .done, start := s.clock }])

/-- The phase of a station in RUN or HAND, as it is named and as its STATUS carries it in the code of its role (R46,
R54, R62, R76, R173): by the step in progress; between steps by the journal's top entry, the adopted kind and, at a
hoist, the handshake; halted or not. That a demand adopted in HAND names the phase of a hoist as at any time is log
entry 36. -/
def Obligations.PhaseNamesWhatStationDoes : Prop :=
  ∀ s : State, s.isRunning = true →
    let top (k : ForwardStep) (e : EntryState) : Prop :=
      s.seq.journal.head?.map (·.step) = some k ∧ s.seq.journal.head?.map (·.state) = some e
    let either (k : ForwardStep) : Prop := top k .done ∨ top k .partway
    let shows (p : Phase) (code : Byte) : Prop := s.phase = p ∧ s.statusBody.phase = code
    (s.role = .barrier →
      (s.doing .lower .forward = true → shows .lowering 2) ∧ (s.doing .lock .forward = true → shows .locking 3) ∧
      (s.doing .lock .inverse = true → shows .unlocking 6) ∧ (s.doing .lower .inverse = true → shows .raising 7) ∧
      (s.seq.step = none →
        (s.adoptedKind = none → s.seq.journal = [] → shows .raised 0) ∧
        (s.adoptedKind = none → s.seq.journal ≠ [] → shows .held 8) ∧
        (s.adoptedKind = some .openBridge → s.seq.journal = [] ∨ either .lower ∨ top .lock .partway →
          shows .waitLower 1) ∧
        (s.adoptedKind = some .openBridge → top .lock .done → shows .lowered 4) ∧
        (s.adoptedKind = some .closeBridge → s.seq.journal ≠ [] → shows .waitRaise 5) ∧
        (s.adoptedKind = some .closeBridge → s.seq.journal = [] → shows .raised 0))) ∧
    (s.role = .hoist →
      (s.seq.stopping = true → shows .stopping 5) ∧
      (s.seq.stopping = false →
        (s.doing .withdraw .forward = true → shows .withdrawing 2) ∧
        (s.doing .raise .forward = true → shows .raising 4) ∧
        (s.doing .raise .inverse = true → s.hoist.seatingStage = false → shows .lowering 9) ∧
        (s.doing .raise .inverse = true → s.hoist.seatingStage = true → shows .seating 10) ∧
        (s.doing .withdraw .inverse = true → shows .drivingIn 11) ∧
        (s.seq.step = none →
          (s.adoptedKind = none → s.seq.journal ≠ [] → shows .held 12) ∧
          (s.adoptedKind = none → s.seq.journal = [] → shows .seated 0) ∧
          (s.adoptedKind ≠ none → s.hoist.handshake = .readyUp → shows .readyUp 3) ∧
          (s.adoptedKind ≠ none → s.hoist.handshake = .readyDown → shows .readyDown 8) ∧
          (s.hoist.handshake = .none →
            (s.adoptedKind = some .openBridge → s.seq.journal = [] ∨ either .withdraw ∨ top .raise .partway →
              shows .waitRoad 1) ∧
            (s.adoptedKind = some .openBridge → top .raise .done → shows .topHeld 6) ∧
            (s.adoptedKind = some .closeBridge → either .raise → shows .waitChannel 7) ∧
            (s.adoptedKind = some .closeBridge → either .withdraw → shows .seating 10) ∧
            (s.adoptedKind = some .closeBridge → s.seq.journal = [] → shows .seated 0))))) ∧
    (s.role = .signal →
      (s.signal.recovering = true → shows .recovering 8) ∧
      (s.signal.recovering = false →
        (s.doing .amber .forward = true ∨ s.seq.step = none → either .amber → shows .prewarn 1) ∧
        (s.doing .red .forward = true ∨ s.seq.step = none → top .red .partway → shows .roadStopping 2) ∧
        (s.doing .green .forward = true → shows .channelClearing 4) ∧
        (s.doing .green .inverse = true → shows .channelClosing 6) ∧
        (s.seq.step = none →
          (s.seq.journal = [] → shows .idle 0) ∧
          (top .red .done → s.adoptedKind ≠ some .closeBridge → shows .roadStopped 3) ∧
          (top .red .done → s.adoptedKind = some .closeBridge → shows .waitRoadOpen 7) ∧
          (top .green .done → shows .channelOpen 5) ∧
          (top .green .partway → shows .channelClosing 6)))) ∧
    (s.role = .desk → shows .idle 0)

/-! ### Level control -/

/-- The control period expiry outside travel and hand moves (R95, R96, R103). In STARTING and CONFIG_FAULT a reference
of 0 is sent and nothing else is done. At a hoist that is halted, or that neither travels, is moved by hand nor holds a
handshake, a valid reading is recorded, a reference of 0 is sent, the present skew becomes absent and SKEW_WARN is
removed, with the accumulator, SAT and the rest of the level controller kept unless a travel step begins at this event,
as it can without a HOIST-flagged entry alone (log entry 34). In the handshake the skew alone is formed, over the
TRACKED hoist peers, with a reference of 0 sent and SKEW_WARN present exactly above its limit, and the rest is kept
unless the travel step begins at this event. The next expiry is 20 ms after this one was due. -/
def Obligations.ControlPeriodAtRest : Prop :=
  ∀ (s : State) (encoder : Option Word16) (start : Time),
    s.level.timer = .running start 20 → 20 ≤ since s.clock start →
    (s.stage = .starting ∨ s.stage = .configFault →
      exec (.controlPeriodExpiry encoder) s = .next
        { s with level := { s.level with timer := .running (start + 20) 20, line := some 0 } }) ∧
    (s.isRunning = true → s.role = .hoist → ∀ h : Word16, encoder = some h →
      let resting : Prop := s.hoistTravel = false ∧ s.hand.move = none
      let skew := (s.peerHeights.map fun q => (h.toNat - q) + (q - h.toNat)).foldl max 0
      (s.halted = true ∧ s.motionFits ∨ s.halted = false ∧ resting ∧ s.hoist.handshake = .none →
        let rest : Level := { s.level with
          timer := .running (start + 20) 20, height := h.toNat, expiryHeight := h.toNat, speedRef := 0,
          line := some 0, skew := none, skewFull := false, skewWarn := false }
        let hoistPeer (i : Fin 16) : Prop := s.peers[i].state ≠ .vacant ∧ s.peers[i].flags.getLsbD 5 = true
        let atTop : Prop := s.seq.step = none ∧ s.adoptedKind = some .openBridge ∧
          s.seq.journal.head?.map (·.step) = some .raise ∧ s.seq.journal.head?.map (·.state) = some .done
        ∃ t, exec (.controlPeriodExpiry encoder) s = .next t ∧ t.level.still = rest.still ∧ t.level.speedRef = 0 ∧
          (s.halted = true ∨ (∃ i, hoistPeer i) ∨ s.permissive .agreed = false ∨ s.inHand = true ∨ atTop →
            t.level = rest ∧ t.halt = s.halt)) ∧
      (s.halted = false → resting → s.hoist.handshake ≠ .none →
        let formed : Level := { s.level with
          timer := .running (start + 20) 20, height := h.toNat, expiryHeight := h.toNat, speedRef := 0,
          line := some 0, skew := some skew, skewFull := s.hoistPeersTracked,
          skewWarn := decide (s.cfg.skewWarn < skew) }
        ∃ t, exec (.controlPeriodExpiry encoder) s = .next t ∧ t.level.still = formed.still ∧ t.level.speedRef = 0 ∧
          (s.permissive .hoistsReadyUp = false → s.permissive .hoistsReadyDown = false → t.level = formed) ∧
          (s.cfg.skewWarn < skew → t.level = formed)))

/-- The full computation of a RAISE, a LOWER, the stopping stage of either, or a hand move (R96 to R106) that neither
trips nor ends the motion: height, mean, error, accumulator and SAT, skew, profile and reference are formed by the
formulas of the rules, in their order, and the reference is sent. Each TRACKED peer that carries HOIST and whose copy
carries a hoist part stands at its extrapolated height: the reported height carried on at the reported speed for the age
of the copy, which is at most 250 ms, truncated toward zero and clamped to 0..65535 mm (that TRACKED is asked in every
case is log entry 24). The profile is that of travel, creep in the seating stage and in a hand move, and the held one
less DECEL in the stopping stage; a skew above SKEW_WARN limits it to creep. The step or the move goes on, and a LOWER
within SEAT_BAND of the seat enters its seating stage (R84). -/
def Obligations.ControlPeriodComputesReference : Prop :=
  ∀ (s : State) (h : Word16) (start : Time) (up : Bool),
    s.level.timer = .running start 20 → 20 ≤ since s.clock start →
    s.isRunning = true → s.role = .hoist → s.halted = false →
    let y := h.toNat
    let lowering : Prop := s.doing .raise .inverse = true
    let moved : HandMove := if up then .up else .down
    (s.doing .raise (if up then .forward else .inverse) = true ∧ s.hand.move = none ∧ s.travelCauses = [] ∨
      s.hoistTravel = false ∧ s.seq.step = none ∧ s.hand.state = .hand ∧ s.hand.move = some moved ∧
        s.handMoveEnds = false) →
    (s.doing .raise .forward = true → s.seq.stopping = false → y + s.cfg.stopBand < s.cfg.hTop) →
    (lowering → s.seatedInput = false ∧ s.cfg.hSeat ≤ y + s.cfg.seatBand) →
    let peers := s.peers.toList.filterMap fun p =>
      if p.state = .tracked ∧ p.flags.getLsbD 5 = true then
        p.report.bind fun r => r.body.hoist.map fun q =>
          let age := min 250 (s.clock - r.receipt).toNat
          (max 0 (min 65535 ((q.height.toNat : Int) + Int.tdiv (q.speed.toInt * age) 1000))).toNat
      else none
    let n := 1 + peers.length
    let m := (y + peers.sum + n / 2) / n
    let e := clampInt (-1000) 1000 ((y : Int) - m)
    let a := clampInt (-1048576) 1048575 (s.level.accumulator + e)
    let c := clampInt (-(s.cfg.cMax : Int)) s.cfg.cMax (Int.tdiv (256 * s.cfg.kp * e + s.cfg.ki * a) 4096)
    let done := (y - s.level.startHeight) + (s.level.startHeight - y)
    let go := if up then s.cfg.hTop - y else y - s.cfg.hSeat
    let travel := min s.cfg.vFull (min (s.cfg.vCreep + s.cfg.ramp * done / 1000)
      (s.cfg.vCreep + s.cfg.ramp * go / 1000))
    let skew := (peers.map fun q => (y - q) + (q - y)).foldl max 0
    let unlimited :=
      if s.hoistTravel = false then s.cfg.vCreep
      else if s.seq.stopping = true then s.level.profile - s.cfg.decel
      else if s.hoist.seatingStage = true then s.cfg.vCreep else travel
    let profile := if s.cfg.skewWarn < skew then min unlimited s.cfg.vCreep else unlimited
    let v := if up then clampInt 0 s.cfg.vMax ((profile : Int) - c)
      else clampInt (-(s.cfg.vMax : Int)) 0 (-(profile : Int) - c)
    skew ≤ s.cfg.skewTrip → (s.hoistTravel = true → s.seq.stopping = true → profile ≠ 0) →
    ∃ t, exec (.controlPeriodExpiry (some h)) s = .next t ∧ t.seq = s.seq ∧ t.halt = s.halt ∧ t.hand = s.hand ∧
      (t.hoist.seatingStage = true ↔ s.hoist.seatingStage = true ∨
        lowering ∧ s.seq.stopping = false ∧ y ≤ s.cfg.hSeat + s.cfg.seatBand) ∧
      t.level = { s.level with
        timer := .running (start + 20) 20, height := y, expiryHeight := y, mean := m, error := e, accumulator := a,
        sat := s.level.sat || decide (a ≠ s.level.accumulator + e), skew := some skew,
        skewFull := s.hoistPeersTracked, skewWarn := decide (s.cfg.skewWarn < skew), profile := profile,
        speedRef := v, line := some v }

/-- The stages of every full computation (R98, R105). The mean is the floor of (S + floor(n/2)) over n, S the own height
and the extrapolated heights of the hoist peers and n their number with the own, and the error is the own height less
the mean, clamped to 1000 mm: with no hoist peer the mean is the own height and the error 0. Without a skew trip the
reference sent is the direction times the profile speed less the correction, clamped to 0..V_max for a raise and to
-V_max..0 for a lowering, and 0 where the correction exceeds the profile speed; what stands as the speed reference after
is that, or 0, and the drive and brake stay as they were while the step goes on. -/
def Obligations.FullComputationStages : Prop :=
  ∀ (s : State) (w : ControlWork) (up : Bool),
    let t := s.fullComputation w up
    let sum := s.level.height + s.peerHeights.sum
    let n := 1 + s.peerHeights.length
    let c := clampInt (-(s.cfg.cMax : Int)) s.cfg.cMax
      (Int.tdiv (256 * s.cfg.kp * t.level.error + s.cfg.ki * t.level.accumulator) 4096)
    t.level.mean = (sum + n / 2) / n ∧
    t.level.error = max (-1000) (min 1000 ((s.level.height : Int) - t.level.mean)) ∧
    (s.peerHeights = [] → t.level.mean = s.level.height ∧ t.level.error = 0) ∧
    (skewOf s.level.height s.peerHeights ≤ s.cfg.skewTrip →
      ∃ v, t.level.line = some v ∧ (t.level.speedRef = v ∨ t.level.speedRef = 0) ∧
        (t.seq.step = s.seq.step → t.halted = s.halted →
          t.driveEnable = s.driveEnable ∧ t.brakeRelease = s.brakeRelease) ∧
        (up = true → v = max 0 (min (s.cfg.vMax : Int) ((t.level.profile : Int) - c)) ∧ 0 ≤ v ∧ v ≤ s.cfg.vMax ∧
          ((t.level.profile : Int) < c → v = 0)) ∧
        (up = false → v = max (-(s.cfg.vMax : Int)) (min 0 (-(t.level.profile : Int) - c)) ∧
          -(s.cfg.vMax : Int) ≤ v ∧ v ≤ 0 ∧ (c < -(t.level.profile : Int) → v = 0)))

/-- The control period expiries that halt a hoist. An invalid reading leaves the height as it is, makes the present skew
absent and the reference 0, and latches ENCODER (R95). A skew above SKEW_TRIP in a full computation of a travel step
latches SKEW_TRIP, with the reference 0, the output line as it was, the step ended and motion at rest (R104; that the
line keeps its value is log entry 19). A height below H_SEAT less SEAT_BAND during a LOWER, its stopping stage included,
with SEATED inactive latches OVERTRAVEL (R84); that the HALT takes the sequence number before that of the STATUS of the
same event is log entry 11. -/
def Obligations.ControlPeriodHalts : Prop :=
  ∀ (s : State), s.level.timer.due s.clock = true → s.isRunning = true → s.role = .hoist → 1 ≤ s.own → s.own ≤ 30 →
    (s.halt.has .encoder = false →
      ∃ t, exec (.controlPeriodExpiry none) s = .next t ∧ causeHas t.halt.latched .encoder = true ∧
        maskHas t.halt.origins s.own = true ∧ t.level.height = s.level.height ∧ t.level.skew = none ∧
        t.level.speedRef = 0 ∧ (s.halted = false → t.seq.step = none ∧ t.atRest = true)) ∧
    (∀ h : Word16, s.halted = false → s.hoistTravel = true → s.halt.has .skewTrip = false →
      s.cfg.skewTrip < skewOf h.toNat s.peerHeights →
      ∃ t, exec (.controlPeriodExpiry (some h)) s = .next t ∧ causeHas t.halt.latched .skewTrip = true ∧
        t.halt.firstOrigin = some s.own ∧ t.halt.firstReason = some (.cause .skewTrip) ∧
        t.level.height = h.toNat ∧ t.level.line = s.level.line ∧ t.seq.step = none ∧
        t.seq.journal = s.seq.journal ∧ t.atRest = true) ∧
    (∀ h : Word16, s.hand.move = none → s.doing .raise .inverse = true → s.seatedInput = false →
      s.travelsFreely .overtravel → skewOf h.toNat s.peerHeights ≤ s.cfg.skewTrip →
      h.toNat + s.cfg.seatBand < s.cfg.hSeat →
      ∃ t, exec (.controlPeriodExpiry (some h)) s = .next t ∧ s.travelHaltedBy t .overtravel 5 ∧
        t.level.height = h.toNat)

/-! ### Lamps -/

/-- A check records the current and judges it (R145, R147): above the selected threshold SHORT, with the retry timer
started; otherwise below OPEN_TH OPEN, else PROVEN; at a retry check a pass makes the output UNPROVEN, and it is driven
at its own duty from this event. The judgement stands unless the command falls to OFF at the same event. -/
def Obligations.CheckJudgesCurrent : Prop :=
  ∀ (s : State) (i : Fin 12) (current : Fin 2001),
    s.isRunning = true → s.lamps.outputs[i].check.due s.clock = true →
    let o := s.lamps.outputs[i]
    let k := s.cfg.outputs[i]
    let short : Prop := (if k.thresholdOne then s.cfg.threshold1 else s.cfg.threshold0) < current.val
    ∃ t, exec (.checkTimerExpiry i current) s = .next t ∧ t.still = s.still ∧
      t.lamps.outputs[i].lastCurrent = current.val ∧
      (∀ j : Fin 12, j ≠ i → t.lamps.outputs[j].lastCurrent = s.lamps.outputs[j].lastCurrent) ∧
      (t.lamps.outputs[i].command ≠ .off →
        (short → (o.retrying = false ∨ o.proof = .short) → t.lamps.outputs[i].proof = .short ∧
          t.lamps.outputs[i].retry = .running s.clock (1000 * s.cfg.retryTime) ∧
          t.lamps.outputs[i].driven = false) ∧
        (¬short → o.retrying = false → t.lamps.outputs[i].proof =
          if current.val < s.cfg.openThreshold then .openCircuit else .proven) ∧
        (¬short → o.retrying = true → t.lamps.outputs[i].proof = .unproven ∧ t.lamps.outputs[i].pwmDuty = o.duty))

/-- The retry of a SHORT output falls due (R147): under OFF it is skipped and the output becomes OFF; under STEADY it is
taken at once, the output driven and checked after the blanking time; under a flashing command it is made due, or taken
if the output's lit interval begins at this very event. An output so driven starts a PWM period at the retry duty
(R139). Each while the command does not change at the event. -/
def Obligations.RetryFallsDue : Prop :=
  ∀ (s : State) (i : Fin 12), s.isRunning = true → s.lamps.outputs[i].retry.due s.clock = true →
    s.lamps.outputs[i].proof = .short → s.lamps.outputs[i].retrying = false →
    let blanking := blankingTime s.cfg.blankingCode
    ∃ t, exec (.retryTimerExpiry i) s = .next t ∧ t.still = s.still ∧
      let o := s.lamps.outputs[i]
      let o' := t.lamps.outputs[i]
      (o'.command = o.command →
        o'.retry = .stopped ∧
        (o.command = .off → o'.proof = .off ∧ o'.retryDue = false) ∧
        (o.command = .steady → o'.proof = .short ∧ o'.retrying = true ∧ o'.driven = true ∧
          o'.check = .running s.clock blanking) ∧
        (o'.retrying = true → o'.pwm = 0 ∧ o'.pwmDuty = s.cfg.retryDuty) ∧
        (o.command = .flashA ∨ o.command = .flashB → o'.proof = .short ∧
          (o'.retrying = true ↔ o'.lit = true ∧ o.lit = false) ∧ o'.retryDue = true))

/-- The timed lamp events. A sample sets every output's duty by the dim curve and floor (R138), restarts the 500 ms, and
leaves the duty of the PWM period in progress (R139). A crossing of φ into a half of its period leaves every output's
command and lit condition as R128 and R129 form them; an output that becomes driven starts a PWM period with the duty in
place, and one that stays driven keeps its period. A driven output conducts for its duty's share from the start of each
period of 5, 2.5, 1.25 or 0.625 ms: throughout at 255, never at 0 (R139; that a sample at the very start of a period
takes effect at the next one is log entry 20). A crossing of the default phase leaves every output under the default
pattern, lit in its first half under FLASH_A, at duty 255 and with no proof (R141). -/
def Obligations.LampTimersFollowPhase : Prop :=
  ∀ s : State,
    (∀ (level : Byte) (start : Time), s.isRunning = true → s.lamps.ambientTimer = .running start 500 →
      500 ≤ since s.clock start →
      exec (.ambientSample level) s = .next
        { s with lamps := { s.lamps with
            ambientTimer := .running (start + 500) 500
            outputs := Vector.ofFn fun i : Fin 12 =>
              { s.lamps.outputs[i] with
                duty :=
                  let k := s.cfg.outputs[i]
                  let f := if k.diagnostics then max s.cfg.dimFloor 32 else s.cfg.dimFloor
                  if k.dim = false ∨ s.cfg.dimCurve = .none then 255
                  else if s.cfg.dimCurve = .linear then f + (255 - f) * level.toNat / 255
                  else f + (255 - f) * level.toNat * level.toNat / 65025 } } }) ∧
    (s.isRunning = true → ∃ t, exec .flashHalfBoundary s = .next t ∧ t.still = s.still ∧
      ∀ i : Fin 12, t.lamps.outputs[i].command = t.outputCommand s.cfg.outputs[i] ∧
        (t.lamps.outputs[i].lit = true ↔
          t.lamps.outputs[i].command = .steady ∨
          t.lamps.outputs[i].command = .flashA ∧ s.flashPhase < s.cfg.flashPeriod / 2 ∨
          t.lamps.outputs[i].command = .flashB ∧ s.cfg.flashPeriod / 2 ≤ s.flashPhase) ∧
        (t.lamps.outputs[i].driven = true →
          (s.lamps.outputs[i].driven = true → t.lamps.outputs[i].pwm = s.lamps.outputs[i].pwm ∧
            t.lamps.outputs[i].pwmDuty = s.lamps.outputs[i].pwmDuty) ∧
          (s.lamps.outputs[i].driven = false → t.lamps.outputs[i].pwm = 0 ∧ t.lamps.outputs[i].pwmDuty =
            if t.lamps.outputs[i].retrying then s.cfg.retryDuty else t.lamps.outputs[i].duty))) ∧
    (∀ (o : Output) (u : Nat), s.cfg.pwmCode ≤ 3 →
      let period := if s.cfg.pwmCode = 0 then 5000 else if s.cfg.pwmCode = 1 then 2500
        else if s.cfg.pwmCode = 2 then 1250 else 625
      let duty := if o.pwm + u < period then o.pwmDuty else if o.retrying then s.cfg.retryDuty else o.duty
      (o.conducts s.cfg u = true ↔ o.driven = true ∧ (o.pwm + u) % period * 255 < duty * period) ∧
      (o.driven = true → duty = 255 → o.conducts s.cfg u = true) ∧ (duty = 0 → o.conducts s.cfg u = false)) ∧
    (s.stage = .starting ∨ s.stage = .configFault → s.lamps.pattern ≠ .flashB →
      exec .defaultPhaseBoundary s = .next
        { s with lamps := { s.lamps with
            outputs := Vector.ofFn fun i : Fin 12 =>
              { command := s.lamps.pattern
                lit := decide (s.lamps.pattern = .steady ∨ s.lamps.pattern = .flashA ∧ s.lamps.defaultPhase < 500)
                duty := 255, proof := .off
                pwm := if s.lamps.outputs[i].lit then s.lamps.outputs[i].pwm else 0, pwmDuty := 255 } } })

/-- The commands of the lamp outputs (R66, R67, R90, R121, R129, R133 to R137, R140), at the end of any event,
`State.conclude`, that leaves the station in `t`. The road aspect is formed from the journal, RED_FLASH in recovery and
at a halt with a journal; the marine aspect is GREEN at a SIGNAL station alone, neither in recovery nor halted, with
GREEN in progress, or DONE and no step in progress. Each output's command is that of its function under those aspects,
the inputs, the phase and the permissives; at a station whose links are both FAILED it is the pattern of its fail-safe
map, but OFF for MARINE_GREEN and NONE (for ARM_LIGHT off a BARRIER and SPAN_LIGHT off a HOIST that is log entry 32; the
span light of a hoist that adopts a demand in HAND is log entry 36). The station is flash active exactly while it is not
so isolated and some command flashes. -/
def Obligations.OutputCommandsFollowFunctions : Prop :=
  ∀ (before s : State) (i : Fin 12), s.isRunning = true →
    let t := State.conclude before s
    let o := s.cfg.outputs[i]
    let recovering : Prop := t.role = .signal ∧ t.signal.recovering = true
    let road : RoadAspect :=
      if t.role = .desk ∨ t.seq.journal = [] ∧ ¬recovering then .dark
      else if t.role = .signal ∧ ¬recovering ∧ t.halted = false ∧ ∀ e ∈ t.seq.journal, e.step ≠ .red then .amber
      else .redFlash
    let opened : Prop := t.seq.journal.head?.map (·.step) = some .green ∧
      t.seq.journal.head?.map (·.state) = some .done ∧ t.seq.step = none
    let green : Prop := t.role = .signal ∧ ¬recovering ∧ t.halted = false ∧ (t.doing .green .forward = true ∨ opened)
    let gives (c : Command) (p : Prop) : Prop :=
      (p → t.lamps.outputs[i].command = c) ∧ (¬p → t.lamps.outputs[i].command = .off)
    let isolated : Prop := t.linkA.failed = true ∧ t.linkB.failed = true
    (isolated → t.lamps.outputs[i].command =
      if o.function = .noFunction ∨ o.function = .marineGreen then .off
      else if o.failSafeOne = true then s.cfg.failSafe1 else s.cfg.failSafe0) ∧
    (¬isolated →
      (o.function = .noFunction → t.lamps.outputs[i].command = .off) ∧
      (o.function = .roadAmber → gives .steady (road = .amber)) ∧
      (o.function = .roadRedA → gives .flashA (road = .redFlash)) ∧
      (o.function = .roadRedB → gives .flashB (road = .redFlash)) ∧
      (o.function = .armLight → gives .flashA (t.role = .barrier ∧ t.upLimit = false)) ∧
      (o.function = .marineRed → gives .steady (¬green)) ∧
      (o.function = .marineGreen → gives .steady (green ∧ t.permissive .hoistsTop = true)) ∧
      (o.function = .spanLight → gives .steady (t.role = .hoist ∧ t.phase ≠ .seated)) ∧
      (o.function = .indAgreed → t.lamps.outputs[i].command =
        if t.demand.adopted = none then .off else if t.permissive .agreed = true then .steady else .flashA) ∧
      (o.function = .indRoadClosed → gives .steady (t.permissive .barriersDown = true)) ∧
      (o.function = .indSpanUp → gives .steady (t.permissive .hoistsTop = true)) ∧
      (o.function = .indSpanSeated → gives .steady (t.permissive .hoistsSeated = true)) ∧
      (o.function = .indHalt → gives .steady (t.halted = true)) ∧
      (o.function = .indPeer → gives .steady
        (∃ j : Fin 16, t.peers[j].state ≠ .vacant ∧ t.peers[j].state ≠ .tracked))) ∧
    (t.flashActive = true ↔ ¬isolated ∧
      ∃ j : Fin 12, t.lamps.outputs[j].command = .flashA ∨ t.lamps.outputs[j].command = .flashB)

/-- The correction of the flash phase (R132): d, the difference of stamp plus LINK_DELAY and captured phase modulo P
taken in -P/2..P/2-1, is added whole within LOCK_WIN, with the lock state LOCKED, and clamped to SLEW otherwise, with it
UNLOCKED; nothing else changes. -/
def Obligations.ReferenceCorrectsPhase : Prop :=
  ∀ (s : State) (stamp captured phase : Nat), s.lamps.phase = some phase →
    0 < s.cfg.flashPeriod → s.cfg.flashPeriod % 2 = 0 →
    let period : Int := s.cfg.flashPeriod
    ∃ d : Int, -(period / 2) ≤ d ∧ d < period / 2 ∧ ((stamp : Int) + s.cfg.linkDelay - captured - d) % period = 0 ∧
      (d.natAbs ≤ s.cfg.lockWindow → s.correctPhase stamp captured =
        { s with lamps := { s.lamps with lock := .locked, phase := some (((phase : Int) + d) % period).toNat } }) ∧
      (s.cfg.lockWindow < d.natAbs → s.correctPhase stamp captured =
        { s with lamps := { s.lamps with
            lock := .unlocked
            phase := some (((phase : Int) + max (-(s.cfg.slew : Int)) (min s.cfg.slew d)) % period).toNat } })

/-! ### Permissives, outputs and what the station shows -/

/-- The permissives over peers, each true while some entry carries its flag and every one that does is TRACKED, in RUN
and reports its attribute, and each false throughout STARTING and CONFIG_FAULT (R15). ENTRY_DOWN, BARRIERS_DOWN and
BARRIERS_UP (R18) are formed from the phase in the copies of barrier peers, LOWERED (code 4) or RAISED (code 0); while
one BARRIER entry's copy has another phase, both permissives over BARRIER are false. HOISTS_READY_UP, HOISTS_READY_DOWN,
HOISTS_TOP and HOISTS_SEATED (R20) are formed from the phase in the copies of hoist peers; the first two are true at a
HOIST station with no HOIST entry, the last two false on an empty set everywhere. AGREED (R16) is formed from echoes
equal to the adopted demand in number, issuer and kind, false while none is adopted, and is the agreed flag of the
STATUS. WARN and MARINE_RED (R17) are formed from ROAD_RED (bit 3) and MARINE_RED (bit 5) in the proven-function set of
the copy, and a station proves ROAD_RED when both groups are proven there. An entry whose expected role has not the
phases its flag asks for, or whose copy carries no zone part under DETECT, holds the permissive false (R21). -/
def Obligations.PermissivesAreFormed : Prop :=
  (∀ s : State, s.isRunning = true →
    let carries (i : Fin 16) (bit : Nat) : Prop :=
      s.peers[i].state ≠ .vacant ∧ s.peers[i].flags.getLsbD bit = true
    let reports (i : Fin 16) (said : StatusBody → Prop) : Prop :=
      s.peers[i].state = .tracked ∧ ∃ r, s.peers[i].report = some r ∧ r.body.hand = false ∧ said r.body
    let formed (bit : Nat) (said : StatusBody → Prop) : Prop :=
      (∃ i, carries i bit) ∧ ∀ i, carries i bit → reports i said
    let barrierPhase (bit : Nat) (code : Byte) : Prop :=
      formed bit (·.phase = code) ∧ ∀ i, carries i bit → s.peers[i].role = .barrier
    (s.permissive .entryDown = true ↔ barrierPhase 2 4) ∧
    (s.permissive .barriersDown = true ↔ barrierPhase 3 4) ∧
    (s.permissive .barriersUp = true ↔ barrierPhase 3 0) ∧
    (∀ (i : Fin 16) (r : Report), carries i 3 → s.peers[i].report = some r → r.body.phase ≠ 0 → r.body.phase ≠ 4 →
      s.permissive .barriersDown = false ∧ s.permissive .barriersUp = false) ∧
    (s.permissive .warn = true ↔ formed 1 (·.proven.getLsbD 3 = true)) ∧
    (s.permissive .marineRed = true ↔ formed 6 (·.proven.getLsbD 5 = true)) ∧
    (s.demand.adopted = none → s.permissive .agreed = false) ∧
    (∀ d, s.demand.adopted = some d →
      (s.permissive .agreed = true ↔ formed 0 fun b => ∃ e, b.echo = some e ∧ e.number.toNat = d.number ∧
        e.issuer.toNat = d.issuer ∧ e.kind = d.kind.code)) ∧
    s.statusBody.agreed = s.permissive .agreed ∧
    (s.statusBody.proven.getLsbD 3 = true ↔
      s.functionProven .roadRedA = true ∧ s.functionProven .roadRedB = true) ∧
    (s.statusBody.proven.getLsbD 5 = true ↔ s.functionProven .marineRed = true) ∧
    ∀ (before : State) (i : Fin 16), carries i 4 → (∀ r, s.peers[i].report = some r → r.body.zone = none) →
      (State.conclude before s).permissive .clear = false) ∧
  (∀ s : State, s.isRunning = false → ∀ p : Permissive, s.permissive p = false) ∧
  ∀ s : State, s.isRunning = true →
    let carries (i : Fin 16) : Prop := s.peers[i].state ≠ .vacant ∧ s.peers[i].flags.getLsbD 5 = true
    let reports (i : Fin 16) (codes : List Byte) : Prop :=
      s.peers[i].state = .tracked ∧ s.peers[i].role = .hoist ∧
        ∃ r, s.peers[i].report = some r ∧ r.body.hand = false ∧ r.body.phase ∈ codes
    let formed (codes : List Byte) : Prop := (∃ i, carries i) ∧ ∀ i, carries i → reports i codes
    let alone : Prop := s.role = .hoist ∧ ∀ i, ¬carries i
    (s.permissive .hoistsReadyUp = true ↔ alone ∨ formed [3, 4]) ∧
    (s.permissive .hoistsReadyDown = true ↔ alone ∨ formed [8, 9, 10]) ∧
    (s.permissive .hoistsTop = true ↔ formed [6]) ∧
    (s.permissive .hoistsSeated = true ↔ formed [0])

/-- The drive outputs (R55, R77) of a station whose motion is kept as stated below: each is active exactly while its
step, its travel or its hand move is in progress, none is at a halted station or outside RUN and HAND, and opposing
drives are never active together. Which DRIVE_IN keeps the drive is stated with the steps (StepsBeginAndComplete). -/
def Obligations.DrivesFollowSteps : Prop :=
  ∀ s : State, s.motionFits →
    (s.isRunning = false → s.generalOutputs = List.replicate 8 false) ∧
    (s.isRunning = true → s.role = .barrier →
      (s.armDown = true ↔ s.doing .lower .forward = true ∨ s.hand.move = some .down) ∧
      (s.armUp = true ↔ s.doing .lower .inverse = true ∨ s.hand.move = some .up) ∧
      (s.lockOn = true ↔ s.doing .lock .forward = true) ∧ (s.lockOff = true ↔ s.doing .lock .inverse = true) ∧
      (s.generalOutputs.filter id).length ≤ 1) ∧
    (s.isRunning = true → s.role = .hoist →
      (s.locksPull = true ↔ s.doing .withdraw .forward = true) ∧
      (s.locksPush = true ↔ s.doing .withdraw .inverse = true) ∧
      (s.driveEnable = true ↔ s.hoistTravel = true ∨ s.hand.move.isSome = true ∨
        s.doing .withdraw .inverse = true ∧ s.hoist.driveHeld = true) ∧
      (s.brakeRelease = true ↔ s.hoistTravel = true ∨ s.hand.move.isSome = true) ∧
      ¬(s.locksPull = true ∧ s.locksPush = true) ∧
      (s.hoistTravel = true → s.locksPull = false ∧ s.locksPush = false)) ∧
    (s.role = .signal ∨ s.role = .desk → s.generalOutputs = List.replicate 8 false) ∧
    (s.halted = true → s.generalOutputs = List.replicate 8 false)

/-- The HEALTHY line and the lamp faults (R149, R150): active exactly in RUN or HAND with no fault present but a masked
lamp fault; LAMP_OPEN and LAMP_SHORT are present while some output is so judged, and the bits of the published fault set
stand in the order of the fault table (R173). -/
def Obligations.HealthyReportsFaults : Prop :=
  ∀ s : State,
    (s.healthy = true ↔ s.isRunning = true ∧ ∀ f, s.hasFault f = true →
      f = .lampOpen ∧ s.cfg.maskOpen = true ∨ f = .lampShort ∧ s.cfg.maskShort = true) ∧
    (s.hasFault .lampOpen = true ↔ ∃ i : Fin 12, s.lamps.outputs[i].proof = .openCircuit) ∧
    (s.hasFault .lampShort = true ↔ ∃ i : Fin 12, s.lamps.outputs[i].proof = .short) ∧
    ∀ (k : Nat) (f : FaultName),
      [FaultName.peerConfig, .dupStation, .linkA, .linkB, .isolated, .stepTime, .encoder, .overtravel, .skewWarn,
        .skewTrip, .peerLost, .peerHalt, .estop, .lampOpen, .lampShort, .detector, .demandStall, .demandExhausted,
        .operator][k]? = some f →
      s.faultSet.getLsbD k = s.hasFault f

/-! ### Telegrams -/

/-- How telegrams are formed. Every one takes the value of the sequence counter and advances it by 1, from 255 to 0,
whether or not a link can take the telegram; both links are offered the same telegram with the same number, and the
stamp is all an attempt changes in it (R157). The mask of a new HALT or RESUME is joined with the masks of its own kind
waiting on either link, a waiting telegram of the other kind is withdrawn, and the result, formed once with one sequence
number, replaces what waits on every link that is not FAILED (R156). That a RESUME is formed under an empty halt mask
too is log entry 28. -/
def Obligations.TelegramsAreNumberedAndJoined : Prop :=
  (∀ (s : State) (k : SlotKind) (body : TelegramBody),
    (s.formTelegram k body).former.sequence.toNat = (s.former.sequence.toNat + 1) % 256 ∧
    (s.formTelegram k body).placed k { sender := byteOf s.own, seq := s.former.sequence, body := body }) ∧
  (∀ (tel : Telegram) (phase : Nat),
    (Telegram.stamped tel phase).sender = tel.sender ∧ (Telegram.stamped tel phase).seq = tel.seq ∧
    (∀ b, tel.body = .status b →
      (Telegram.stamped tel phase).body = .status { b with stamp := BitVec.ofNat 16 phase }) ∧
    ((∀ b, tel.body ≠ .status b) → Telegram.stamped tel phase = tel)) ∧
  ∀ (s : State) (reason : HaltReason), s.bothFailed = false →
    let waitingHalt (c : LinkController) : StationMask :=
      match c.haltcmd with
      | some { body := .halt m _, .. } => m
      | _ => 0
    let waitingResume (c : LinkController) : StationMask :=
      match c.haltcmd with
      | some { body := .resume m, .. } => m
      | _ => 0
    (s.cfg.haltMask ≠ 0 →
      (s.formHalt reason).former.sequence = s.former.sequence + 1 ∧
      (s.formHalt reason).placed .haltcmd
        { sender := byteOf s.own, seq := s.former.sequence,
          body := .halt (s.cfg.haltMask ||| waitingHalt s.linkA ||| waitingHalt s.linkB) reason.code }) ∧
    s.formResume.former.sequence = s.former.sequence + 1 ∧
    s.formResume.placed .haltcmd
      { sender := byteOf s.own, seq := s.former.sequence,
        body := .resume (s.cfg.haltMask ||| waitingResume s.linkA ||| waitingResume s.linkB) }

/-- Identities are totally ordered by number, then by issuer, and any demand's identity exceeds none (R22). -/
def Obligations.IdentitiesAreOrdered : Prop :=
  (∀ n1 i1 n2 i2 : Nat, identityGreater n1 i1 n2 i2 = true ↔ n2 < n1 ∨ n1 = n2 ∧ i2 < i1) ∧
  (∀ n1 i1 n2 i2 : Nat,
    identityGreater n1 i1 n2 i2 = true ∨ identityGreater n2 i2 n1 i1 = true ∨ (n1 = n2 ∧ i1 = i2)) ∧
  (∀ n1 i1 n2 i2 n3 i3 : Nat, identityGreater n1 i1 n2 i2 = true → identityGreater n2 i2 n3 i3 = true →
    identityGreater n1 i1 n3 i3 = true) ∧
  (∀ n i : Nat, identityGreater n i n i = false) ∧
  ∀ d : Demand, d.exceeds none = true ∧
    ∀ a : Demand, d.exceeds (some a) = identityGreater d.number d.issuer a.number a.issuer

/-- Sending and receiving agree (R153, R171 to R174): the bytes of a telegram of any kind, framed with its check, are
recognized at another station's link that is not FAILED as the reception of that very telegram, with every field at its
value. -/
def Obligations.FramedTelegramsAreReceived : Prop :=
  ∀ (own : Nat) (l : Link) (tel : Telegram),
    1 ≤ tel.sender.toNat → tel.sender.toNat ≤ 31 → tel.sender.toNat ≠ own →
    (∀ bytes, tel.body = .record bytes → recordFits bytes = true) →
    receptionCommand own false l (frameTelegram tel) = telegramCommand l tel

/-- The RECORD a station forms has the length its counts and flags declare, at most 233 bytes (R174), and so is well
formed, with a journal no longer than its role's list of steps. -/
def Obligations.RecordHasDeclaredLength : Prop :=
  ∀ s : State, s.seq.journal.length ≤ s.role.steps.length →
    s.recordBody.length = recordLength s.recordBody ∧ s.recordBody.length ≤ 233 ∧
    recordLength s.recordBody =
      92 + 6 * s.seq.journal.length + 7 * s.listedPeers.length + (if s.snapshotStep.isSome then 4 else 0)
        + (if s.role = .hoist then 13 else 0) + (if s.hasDetectors then 1 else 0)

/-! ### Invariants of every step -/

/-- Every step keeps the peer table as section 1.3 lays it down: an entry is TRACKED only while its deficit is below
LOST_THRESHOLD, and every deficit stays within 0..7 (R12). -/
def Obligations.StepKeepsPeers : Prop :=
  ∀ s t : State, s.peersFit → step s = .next t → t.peersFit

/-- Every step keeps the links as section 10.5 lays them down: a count stays within 0..15, and a FAILED link holds no
telegram (R160). -/
def Obligations.StepKeepsLinks : Prop :=
  ∀ s t : State, s.linksFit → step s = .next t → t.linksFit

/-- Every step keeps the halt record as section 7.1 lays it down: the own number is among the origins while a local
cause is present (R112). -/
def Obligations.StepKeepsHaltRecord : Prop :=
  ∀ s t : State, s.haltFits → step s = .next t → t.haltFits

/-- Every step keeps motion as sections 6.7 and 7.5 lay it down: a halted station is at rest, and the speed reference
never has the sign opposite to its direction and never exceeds V_max (R105, R119). With the halt record kept too, it
keeps the reference of a hoist non-zero only in RUN or HAND, not halted, and with every HOIST-flagged entry TRACKED
(R106). And it keeps the level accumulator within its range (R99). -/
def Obligations.StepKeepsMotion : Prop :=
  ∀ s t : State, step s = .next t →
    (s.motionFits → t.motionFits) ∧ (s.motionFits → s.haltFits → s.referenceGuarded → t.referenceGuarded) ∧
    (s.accumulatorFits → t.accumulatorFits)

/-- Every step keeps the journal as section 3.3 lays it down: the role's forward steps in order, all but the newest
DONE, with the entry of a step in progress PARTIAL on top (R38). -/
def Obligations.StepKeepsJournal : Prop :=
  ∀ s t : State, s.journalKept → step s = .next t → t.journalKept

/-- Every step keeps the lamp laws: in RUN and HAND the two road red groups are never lit together (R135), except where
an isolated station follows its fail-safe patterns (R135, R140), while in STARTING and CONFIG_FAULT the default pattern
may light both (R135, R141); a MARINE_GREEN output is lit only in RUN, not halted, not isolated and under HOISTS_TOP
(R135), an output without diagnostics is never judged (R143), and the flash phase stays within its period (R130). -/
def Obligations.StepKeepsLampLaws : Prop :=
  ∀ s t : State, step s = .next t →
    (s.redsAlternate → t.redsAlternate) ∧ (s.greenGuarded → t.greenGuarded) ∧ (s.undiagnosedFit → t.undiagnosedFit) ∧
    (s.phaseFits → t.phaseFits)

/-- Between resets the adopted demand is only ever replaced by one of a greater identity (R26). -/
def Obligations.AdoptedIdentityNeverFalls : Prop :=
  ∀ (c : Instr) (s t : State) (d : Demand), exec c s = .next t → s.demand.adopted = some d →
    (∀ a b, c ≠ .powerOn a b) → c ≠ .rstAssert → (∀ a b, c ≠ .rstRelease a b) →
    ∃ d', t.demand.adopted = some d' ∧ (d' = d ∨ identityGreater d'.number d'.issuer d.number d.issuer = true)

/-- Outside RUN and HAND nothing acts (R111, R152, R163, R166): only a reset or the entry into RUN changes the peer
table, the demand record, the sequencer, the halt record, the hand panel interface or a link; only a reset leaves
CONFIG_FAULT; and the general outputs and the HEALTHY line are inactive and the station is not flash active (R133)
throughout. -/
def Obligations.QuietOutsideRun : Prop :=
  ∀ (c : Instr) (s t : State), exec c s = .next t → s.isRunning = false →
    (∀ a b, c ≠ .powerOn a b) → c ≠ .rstAssert → (∀ a b, c ≠ .rstRelease a b) →
    (s.stage = .configFault → t.stage = .configFault) ∧
    (t.isRunning = true → s.stage = .starting ∧ ∃ encoder ambient, c = .startTimerExpiry encoder ambient) ∧
    (t.isRunning = false →
      t.peers = s.peers ∧ t.demand = s.demand ∧ t.seq = s.seq ∧ t.halt = s.halt ∧ t.hand = s.hand ∧
      t.linkA = s.linkA ∧ t.linkB = s.linkB ∧ t.former = s.former ∧
      t.healthy = false ∧ t.flashActive = false ∧ t.generalOutputs = List.replicate 8 false)
end

