-- ==== Sys2Proof/Laws/State.lean ====
section
/-!
SUPPORT. What each named update of the state leaves of every field it does not touch, and what it puts in the fields it
does: the lemmas that spare a proof the unfolding of a record update.
-/

namespace Sys2Proof.Machine

/-! ### One link controller replaced -/

section SetLink

variable (s : State) (l : Link) (c : LinkController)

@[simp] theorem State.setLink_stage : (s.setLink l c).stage = s.stage := by cases l <;> rfl
@[simp] theorem State.setLink_clock : (s.setLink l c).clock = s.clock := by cases l <;> rfl
@[simp] theorem State.setLink_loader : (s.setLink l c).loader = s.loader := by cases l <;> rfl
@[simp] theorem State.setLink_cfg : (s.setLink l c).cfg = s.cfg := by cases l <;> rfl
@[simp] theorem State.setLink_crc : (s.setLink l c).crc = s.crc := by cases l <;> rfl
@[simp] theorem State.setLink_inputs : (s.setLink l c).inputs = s.inputs := by cases l <;> rfl
@[simp] theorem State.setLink_zoneFlag : (s.setLink l c).zoneFlag = s.zoneFlag := by cases l <;> rfl
@[simp] theorem State.setLink_peers : (s.setLink l c).peers = s.peers := by cases l <;> rfl
@[simp] theorem State.setLink_peerConfig : (s.setLink l c).peerConfig = s.peerConfig := by cases l <;> rfl
@[simp] theorem State.setLink_clearance : (s.setLink l c).clearance = s.clearance := by cases l <;> rfl
@[simp] theorem State.setLink_demand : (s.setLink l c).demand = s.demand := by cases l <;> rfl
@[simp] theorem State.setLink_seq : (s.setLink l c).seq = s.seq := by cases l <;> rfl
@[simp] theorem State.setLink_barrier : (s.setLink l c).barrier = s.barrier := by cases l <;> rfl
@[simp] theorem State.setLink_signal : (s.setLink l c).signal = s.signal := by cases l <;> rfl
@[simp] theorem State.setLink_hoist : (s.setLink l c).hoist = s.hoist := by cases l <;> rfl
@[simp] theorem State.setLink_level : (s.setLink l c).level = s.level := by cases l <;> rfl
@[simp] theorem State.setLink_halt : (s.setLink l c).halt = s.halt := by cases l <;> rfl
@[simp] theorem State.setLink_hand : (s.setLink l c).hand = s.hand := by cases l <;> rfl
@[simp] theorem State.setLink_lamps : (s.setLink l c).lamps = s.lamps := by cases l <;> rfl
@[simp] theorem State.setLink_former : (s.setLink l c).former = s.former := by cases l <;> rfl
@[simp] theorem State.setLink_drawn : (s.setLink l c).drawn = s.drawn := by cases l <;> rfl
@[simp] theorem State.setLink_pending : (s.setLink l c).pending = s.pending := by cases l <;> rfl

end SetLink

/-! ### One peer entry replaced -/

section SetPeer

variable (s : State) (i : Fin 16) (p : PeerEntry)

@[simp] theorem State.setPeer_stage : (s.setPeer i p).stage = s.stage := rfl
@[simp] theorem State.setPeer_clock : (s.setPeer i p).clock = s.clock := rfl
@[simp] theorem State.setPeer_loader : (s.setPeer i p).loader = s.loader := rfl
@[simp] theorem State.setPeer_cfg : (s.setPeer i p).cfg = s.cfg := rfl
@[simp] theorem State.setPeer_crc : (s.setPeer i p).crc = s.crc := rfl
@[simp] theorem State.setPeer_inputs : (s.setPeer i p).inputs = s.inputs := rfl
@[simp] theorem State.setPeer_zoneFlag : (s.setPeer i p).zoneFlag = s.zoneFlag := rfl
@[simp] theorem State.setPeer_peerConfig : (s.setPeer i p).peerConfig = s.peerConfig := rfl
@[simp] theorem State.setPeer_clearance : (s.setPeer i p).clearance = s.clearance := rfl
@[simp] theorem State.setPeer_demand : (s.setPeer i p).demand = s.demand := rfl
@[simp] theorem State.setPeer_seq : (s.setPeer i p).seq = s.seq := rfl
@[simp] theorem State.setPeer_barrier : (s.setPeer i p).barrier = s.barrier := rfl
@[simp] theorem State.setPeer_signal : (s.setPeer i p).signal = s.signal := rfl
@[simp] theorem State.setPeer_hoist : (s.setPeer i p).hoist = s.hoist := rfl
@[simp] theorem State.setPeer_level : (s.setPeer i p).level = s.level := rfl
@[simp] theorem State.setPeer_halt : (s.setPeer i p).halt = s.halt := rfl
@[simp] theorem State.setPeer_hand : (s.setPeer i p).hand = s.hand := rfl
@[simp] theorem State.setPeer_lamps : (s.setPeer i p).lamps = s.lamps := rfl
@[simp] theorem State.setPeer_linkA : (s.setPeer i p).linkA = s.linkA := rfl
@[simp] theorem State.setPeer_linkB : (s.setPeer i p).linkB = s.linkB := rfl
@[simp] theorem State.setPeer_former : (s.setPeer i p).former = s.former := rfl
@[simp] theorem State.setPeer_drawn : (s.setPeer i p).drawn = s.drawn := rfl
@[simp] theorem State.setPeer_pending : (s.setPeer i p).pending = s.pending := rfl

end SetPeer

/-! ### One input line replaced -/

section SetInput

variable (s : State) (i : Fin 16) (x : InputLine)

@[simp] theorem State.setInput_stage : (s.setInput i x).stage = s.stage := rfl
@[simp] theorem State.setInput_clock : (s.setInput i x).clock = s.clock := rfl
@[simp] theorem State.setInput_loader : (s.setInput i x).loader = s.loader := rfl
@[simp] theorem State.setInput_cfg : (s.setInput i x).cfg = s.cfg := rfl
@[simp] theorem State.setInput_crc : (s.setInput i x).crc = s.crc := rfl
@[simp] theorem State.setInput_zoneFlag : (s.setInput i x).zoneFlag = s.zoneFlag := rfl
@[simp] theorem State.setInput_peers : (s.setInput i x).peers = s.peers := rfl
@[simp] theorem State.setInput_peerConfig : (s.setInput i x).peerConfig = s.peerConfig := rfl
@[simp] theorem State.setInput_clearance : (s.setInput i x).clearance = s.clearance := rfl
@[simp] theorem State.setInput_demand : (s.setInput i x).demand = s.demand := rfl
@[simp] theorem State.setInput_seq : (s.setInput i x).seq = s.seq := rfl
@[simp] theorem State.setInput_barrier : (s.setInput i x).barrier = s.barrier := rfl
@[simp] theorem State.setInput_signal : (s.setInput i x).signal = s.signal := rfl
@[simp] theorem State.setInput_hoist : (s.setInput i x).hoist = s.hoist := rfl
@[simp] theorem State.setInput_level : (s.setInput i x).level = s.level := rfl
@[simp] theorem State.setInput_halt : (s.setInput i x).halt = s.halt := rfl
@[simp] theorem State.setInput_hand : (s.setInput i x).hand = s.hand := rfl
@[simp] theorem State.setInput_lamps : (s.setInput i x).lamps = s.lamps := rfl
@[simp] theorem State.setInput_linkA : (s.setInput i x).linkA = s.linkA := rfl
@[simp] theorem State.setInput_linkB : (s.setInput i x).linkB = s.linkB := rfl
@[simp] theorem State.setInput_former : (s.setInput i x).former = s.former := rfl
@[simp] theorem State.setInput_drawn : (s.setInput i x).drawn = s.drawn := rfl
@[simp] theorem State.setInput_pending : (s.setInput i x).pending = s.pending := rfl

end SetInput

/-! ### One output record replaced -/

section SetOutput

variable (s : State) (i : Fin 12) (o : Output)

@[simp] theorem State.setOutput_stage : (s.setOutput i o).stage = s.stage := rfl
@[simp] theorem State.setOutput_clock : (s.setOutput i o).clock = s.clock := rfl
@[simp] theorem State.setOutput_loader : (s.setOutput i o).loader = s.loader := rfl
@[simp] theorem State.setOutput_cfg : (s.setOutput i o).cfg = s.cfg := rfl
@[simp] theorem State.setOutput_crc : (s.setOutput i o).crc = s.crc := rfl
@[simp] theorem State.setOutput_inputs : (s.setOutput i o).inputs = s.inputs := rfl
@[simp] theorem State.setOutput_zoneFlag : (s.setOutput i o).zoneFlag = s.zoneFlag := rfl
@[simp] theorem State.setOutput_peers : (s.setOutput i o).peers = s.peers := rfl
@[simp] theorem State.setOutput_peerConfig : (s.setOutput i o).peerConfig = s.peerConfig := rfl
@[simp] theorem State.setOutput_clearance : (s.setOutput i o).clearance = s.clearance := rfl
@[simp] theorem State.setOutput_demand : (s.setOutput i o).demand = s.demand := rfl
@[simp] theorem State.setOutput_seq : (s.setOutput i o).seq = s.seq := rfl
@[simp] theorem State.setOutput_barrier : (s.setOutput i o).barrier = s.barrier := rfl
@[simp] theorem State.setOutput_signal : (s.setOutput i o).signal = s.signal := rfl
@[simp] theorem State.setOutput_hoist : (s.setOutput i o).hoist = s.hoist := rfl
@[simp] theorem State.setOutput_level : (s.setOutput i o).level = s.level := rfl
@[simp] theorem State.setOutput_halt : (s.setOutput i o).halt = s.halt := rfl
@[simp] theorem State.setOutput_hand : (s.setOutput i o).hand = s.hand := rfl
@[simp] theorem State.setOutput_linkA : (s.setOutput i o).linkA = s.linkA := rfl
@[simp] theorem State.setOutput_linkB : (s.setOutput i o).linkB = s.linkB := rfl
@[simp] theorem State.setOutput_former : (s.setOutput i o).former = s.former := rfl
@[simp] theorem State.setOutput_drawn : (s.setOutput i o).drawn = s.drawn := rfl
@[simp] theorem State.setOutput_pending : (s.setOutput i o).pending = s.pending := rfl

end SetOutput

/-! ### A telegram formed -/

section FormTelegram

variable (s : State) (k : SlotKind) (b : TelegramBody)

@[simp] theorem State.formTelegram_stage : (s.formTelegram k b).stage = s.stage := rfl
@[simp] theorem State.formTelegram_clock : (s.formTelegram k b).clock = s.clock := rfl
@[simp] theorem State.formTelegram_loader : (s.formTelegram k b).loader = s.loader := rfl
@[simp] theorem State.formTelegram_cfg : (s.formTelegram k b).cfg = s.cfg := rfl
@[simp] theorem State.formTelegram_crc : (s.formTelegram k b).crc = s.crc := rfl
@[simp] theorem State.formTelegram_inputs : (s.formTelegram k b).inputs = s.inputs := rfl
@[simp] theorem State.formTelegram_zoneFlag : (s.formTelegram k b).zoneFlag = s.zoneFlag := rfl
@[simp] theorem State.formTelegram_peers : (s.formTelegram k b).peers = s.peers := rfl
@[simp] theorem State.formTelegram_peerConfig : (s.formTelegram k b).peerConfig = s.peerConfig := rfl
@[simp] theorem State.formTelegram_clearance : (s.formTelegram k b).clearance = s.clearance := rfl
@[simp] theorem State.formTelegram_demand : (s.formTelegram k b).demand = s.demand := rfl
@[simp] theorem State.formTelegram_seq : (s.formTelegram k b).seq = s.seq := rfl
@[simp] theorem State.formTelegram_barrier : (s.formTelegram k b).barrier = s.barrier := rfl
@[simp] theorem State.formTelegram_signal : (s.formTelegram k b).signal = s.signal := rfl
@[simp] theorem State.formTelegram_hoist : (s.formTelegram k b).hoist = s.hoist := rfl
@[simp] theorem State.formTelegram_level : (s.formTelegram k b).level = s.level := rfl
@[simp] theorem State.formTelegram_halt : (s.formTelegram k b).halt = s.halt := rfl
@[simp] theorem State.formTelegram_hand : (s.formTelegram k b).hand = s.hand := rfl
@[simp] theorem State.formTelegram_lamps : (s.formTelegram k b).lamps = s.lamps := rfl
@[simp] theorem State.formTelegram_drawn : (s.formTelegram k b).drawn = s.drawn := rfl
@[simp] theorem State.formTelegram_pending : (s.formTelegram k b).pending = s.pending := rfl

end FormTelegram

/-! ### A step left -/

section LeaveStep

variable (s : State) (t : SupervisionTimer)

@[simp] theorem State.leaveStep_stage : (s.leaveStep t).stage = s.stage := rfl
@[simp] theorem State.leaveStep_clock : (s.leaveStep t).clock = s.clock := rfl
@[simp] theorem State.leaveStep_loader : (s.leaveStep t).loader = s.loader := rfl
@[simp] theorem State.leaveStep_cfg : (s.leaveStep t).cfg = s.cfg := rfl
@[simp] theorem State.leaveStep_crc : (s.leaveStep t).crc = s.crc := rfl
@[simp] theorem State.leaveStep_inputs : (s.leaveStep t).inputs = s.inputs := rfl
@[simp] theorem State.leaveStep_zoneFlag : (s.leaveStep t).zoneFlag = s.zoneFlag := rfl
@[simp] theorem State.leaveStep_peers : (s.leaveStep t).peers = s.peers := rfl
@[simp] theorem State.leaveStep_peerConfig : (s.leaveStep t).peerConfig = s.peerConfig := rfl
@[simp] theorem State.leaveStep_clearance : (s.leaveStep t).clearance = s.clearance := rfl
@[simp] theorem State.leaveStep_demand : (s.leaveStep t).demand = s.demand := rfl
@[simp] theorem State.leaveStep_barrier : (s.leaveStep t).barrier = s.barrier := rfl
@[simp] theorem State.leaveStep_halt : (s.leaveStep t).halt = s.halt := rfl
@[simp] theorem State.leaveStep_hand : (s.leaveStep t).hand = s.hand := rfl
@[simp] theorem State.leaveStep_lamps : (s.leaveStep t).lamps = s.lamps := rfl
@[simp] theorem State.leaveStep_linkA : (s.leaveStep t).linkA = s.linkA := rfl
@[simp] theorem State.leaveStep_linkB : (s.leaveStep t).linkB = s.linkB := rfl
@[simp] theorem State.leaveStep_former : (s.leaveStep t).former = s.former := rfl
@[simp] theorem State.leaveStep_drawn : (s.leaveStep t).drawn = s.drawn := rfl
@[simp] theorem State.leaveStep_pending : (s.leaveStep t).pending = s.pending := rfl

end LeaveStep

/-! ### A step begun -/

section BeginStep

variable (s : State) (st : Step) (b : Bool)

@[simp] theorem State.beginStep_stage : (s.beginStep st b).stage = s.stage := by unfold State.beginStep; split <;> rfl
@[simp] theorem State.beginStep_clock : (s.beginStep st b).clock = s.clock := by unfold State.beginStep; split <;> rfl
@[simp] theorem State.beginStep_loader : (s.beginStep st b).loader = s.loader := by unfold State.beginStep; split <;> rfl
@[simp] theorem State.beginStep_cfg : (s.beginStep st b).cfg = s.cfg := by unfold State.beginStep; split <;> rfl
@[simp] theorem State.beginStep_crc : (s.beginStep st b).crc = s.crc := by unfold State.beginStep; split <;> rfl
@[simp] theorem State.beginStep_inputs : (s.beginStep st b).inputs = s.inputs := by unfold State.beginStep; split <;> rfl
@[simp] theorem State.beginStep_zoneFlag : (s.beginStep st b).zoneFlag = s.zoneFlag := by unfold State.beginStep; split <;> rfl
@[simp] theorem State.beginStep_peers : (s.beginStep st b).peers = s.peers := by unfold State.beginStep; split <;> rfl
@[simp] theorem State.beginStep_peerConfig : (s.beginStep st b).peerConfig = s.peerConfig := by unfold State.beginStep; split <;> rfl
@[simp] theorem State.beginStep_clearance : (s.beginStep st b).clearance = s.clearance := by unfold State.beginStep; split <;> rfl
@[simp] theorem State.beginStep_demand : (s.beginStep st b).demand = s.demand := by unfold State.beginStep; split <;> rfl
@[simp] theorem State.beginStep_barrier : (s.beginStep st b).barrier = s.barrier := by unfold State.beginStep; split <;> rfl
@[simp] theorem State.beginStep_halt : (s.beginStep st b).halt = s.halt := by unfold State.beginStep; split <;> rfl
@[simp] theorem State.beginStep_hand : (s.beginStep st b).hand = s.hand := by unfold State.beginStep; split <;> rfl
@[simp] theorem State.beginStep_lamps : (s.beginStep st b).lamps = s.lamps := by unfold State.beginStep; split <;> rfl
@[simp] theorem State.beginStep_linkA : (s.beginStep st b).linkA = s.linkA := by unfold State.beginStep; split <;> rfl
@[simp] theorem State.beginStep_linkB : (s.beginStep st b).linkB = s.linkB := by unfold State.beginStep; split <;> rfl
@[simp] theorem State.beginStep_former : (s.beginStep st b).former = s.former := by unfold State.beginStep; split <;> rfl
@[simp] theorem State.beginStep_drawn : (s.beginStep st b).drawn = s.drawn := by unfold State.beginStep; split <;> rfl
@[simp] theorem State.beginStep_pending : (s.beginStep st b).pending = s.pending := by unfold State.beginStep; split <;> rfl

end BeginStep

/-! ### Motion stopped -/

section StopMotion

variable (s : State)

@[simp] theorem State.stopMotion_stage : (s.stopMotion).stage = s.stage := by unfold State.stopMotion State.interruptStep; split <;> rfl
@[simp] theorem State.stopMotion_clock : (s.stopMotion).clock = s.clock := by unfold State.stopMotion State.interruptStep; split <;> rfl
@[simp] theorem State.stopMotion_loader : (s.stopMotion).loader = s.loader := by unfold State.stopMotion State.interruptStep; split <;> rfl
@[simp] theorem State.stopMotion_cfg : (s.stopMotion).cfg = s.cfg := by unfold State.stopMotion State.interruptStep; split <;> rfl
@[simp] theorem State.stopMotion_crc : (s.stopMotion).crc = s.crc := by unfold State.stopMotion State.interruptStep; split <;> rfl
@[simp] theorem State.stopMotion_inputs : (s.stopMotion).inputs = s.inputs := by unfold State.stopMotion State.interruptStep; split <;> rfl
@[simp] theorem State.stopMotion_zoneFlag : (s.stopMotion).zoneFlag = s.zoneFlag := by unfold State.stopMotion State.interruptStep; split <;> rfl
@[simp] theorem State.stopMotion_peers : (s.stopMotion).peers = s.peers := by unfold State.stopMotion State.interruptStep; split <;> rfl
@[simp] theorem State.stopMotion_peerConfig : (s.stopMotion).peerConfig = s.peerConfig := by unfold State.stopMotion State.interruptStep; split <;> rfl
@[simp] theorem State.stopMotion_clearance : (s.stopMotion).clearance = s.clearance := by unfold State.stopMotion State.interruptStep; split <;> rfl
@[simp] theorem State.stopMotion_demand : (s.stopMotion).demand = s.demand := by unfold State.stopMotion State.interruptStep; split <;> rfl
@[simp] theorem State.stopMotion_barrier : (s.stopMotion).barrier = s.barrier := by unfold State.stopMotion State.interruptStep; split <;> rfl
@[simp] theorem State.stopMotion_halt : (s.stopMotion).halt = s.halt := by unfold State.stopMotion State.interruptStep; split <;> rfl
@[simp] theorem State.stopMotion_lamps : (s.stopMotion).lamps = s.lamps := by unfold State.stopMotion State.interruptStep; split <;> rfl
@[simp] theorem State.stopMotion_linkA : (s.stopMotion).linkA = s.linkA := by unfold State.stopMotion State.interruptStep; split <;> rfl
@[simp] theorem State.stopMotion_linkB : (s.stopMotion).linkB = s.linkB := by unfold State.stopMotion State.interruptStep; split <;> rfl
@[simp] theorem State.stopMotion_former : (s.stopMotion).former = s.former := by unfold State.stopMotion State.interruptStep; split <;> rfl
@[simp] theorem State.stopMotion_drawn : (s.stopMotion).drawn = s.drawn := by unfold State.stopMotion State.interruptStep; split <;> rfl
@[simp] theorem State.stopMotion_pending : (s.stopMotion).pending = s.pending := by unfold State.stopMotion State.interruptStep; split <;> rfl

end StopMotion

/-! ### The lamps brought up to date -/

section FollowLamps

variable (s : State)

@[simp] theorem State.followLamps_stage : (s.followLamps).stage = s.stage := rfl
@[simp] theorem State.followLamps_clock : (s.followLamps).clock = s.clock := rfl
@[simp] theorem State.followLamps_loader : (s.followLamps).loader = s.loader := rfl
@[simp] theorem State.followLamps_cfg : (s.followLamps).cfg = s.cfg := rfl
@[simp] theorem State.followLamps_crc : (s.followLamps).crc = s.crc := rfl
@[simp] theorem State.followLamps_inputs : (s.followLamps).inputs = s.inputs := rfl
@[simp] theorem State.followLamps_zoneFlag : (s.followLamps).zoneFlag = s.zoneFlag := rfl
@[simp] theorem State.followLamps_peers : (s.followLamps).peers = s.peers := rfl
@[simp] theorem State.followLamps_peerConfig : (s.followLamps).peerConfig = s.peerConfig := rfl
@[simp] theorem State.followLamps_clearance : (s.followLamps).clearance = s.clearance := rfl
@[simp] theorem State.followLamps_demand : (s.followLamps).demand = s.demand := rfl
@[simp] theorem State.followLamps_seq : (s.followLamps).seq = s.seq := rfl
@[simp] theorem State.followLamps_barrier : (s.followLamps).barrier = s.barrier := rfl
@[simp] theorem State.followLamps_signal : (s.followLamps).signal = s.signal := rfl
@[simp] theorem State.followLamps_hoist : (s.followLamps).hoist = s.hoist := rfl
@[simp] theorem State.followLamps_level : (s.followLamps).level = s.level := rfl
@[simp] theorem State.followLamps_halt : (s.followLamps).halt = s.halt := rfl
@[simp] theorem State.followLamps_hand : (s.followLamps).hand = s.hand := rfl
@[simp] theorem State.followLamps_linkA : (s.followLamps).linkA = s.linkA := rfl
@[simp] theorem State.followLamps_linkB : (s.followLamps).linkB = s.linkB := rfl
@[simp] theorem State.followLamps_former : (s.followLamps).former = s.former := rfl
@[simp] theorem State.followLamps_drawn : (s.followLamps).drawn = s.drawn := rfl
@[simp] theorem State.followLamps_pending : (s.followLamps).pending = s.pending := rfl

end FollowLamps

/-! ### The handshake brought up to date -/

section FollowHandshake

variable (s : State)

@[simp] theorem State.followHandshake_stage : (s.followHandshake).stage = s.stage := rfl
@[simp] theorem State.followHandshake_clock : (s.followHandshake).clock = s.clock := rfl
@[simp] theorem State.followHandshake_loader : (s.followHandshake).loader = s.loader := rfl
@[simp] theorem State.followHandshake_cfg : (s.followHandshake).cfg = s.cfg := rfl
@[simp] theorem State.followHandshake_crc : (s.followHandshake).crc = s.crc := rfl
@[simp] theorem State.followHandshake_inputs : (s.followHandshake).inputs = s.inputs := rfl
@[simp] theorem State.followHandshake_zoneFlag : (s.followHandshake).zoneFlag = s.zoneFlag := rfl
@[simp] theorem State.followHandshake_peers : (s.followHandshake).peers = s.peers := rfl
@[simp] theorem State.followHandshake_peerConfig : (s.followHandshake).peerConfig = s.peerConfig := rfl
@[simp] theorem State.followHandshake_clearance : (s.followHandshake).clearance = s.clearance := rfl
@[simp] theorem State.followHandshake_demand : (s.followHandshake).demand = s.demand := rfl
@[simp] theorem State.followHandshake_seq : (s.followHandshake).seq = s.seq := rfl
@[simp] theorem State.followHandshake_barrier : (s.followHandshake).barrier = s.barrier := rfl
@[simp] theorem State.followHandshake_signal : (s.followHandshake).signal = s.signal := rfl
@[simp] theorem State.followHandshake_level : (s.followHandshake).level = s.level := rfl
@[simp] theorem State.followHandshake_halt : (s.followHandshake).halt = s.halt := rfl
@[simp] theorem State.followHandshake_hand : (s.followHandshake).hand = s.hand := rfl
@[simp] theorem State.followHandshake_lamps : (s.followHandshake).lamps = s.lamps := rfl
@[simp] theorem State.followHandshake_linkA : (s.followHandshake).linkA = s.linkA := rfl
@[simp] theorem State.followHandshake_linkB : (s.followHandshake).linkB = s.linkB := rfl
@[simp] theorem State.followHandshake_former : (s.followHandshake).former = s.former := rfl
@[simp] theorem State.followHandshake_drawn : (s.followHandshake).drawn = s.drawn := rfl
@[simp] theorem State.followHandshake_pending : (s.followHandshake).pending = s.pending := rfl

end FollowHandshake

/-! ### A free choice drawn -/

section Draw

variable (s : State)

@[simp] theorem State.draw_stage : (s.draw.2).stage = s.stage := rfl
@[simp] theorem State.draw_clock : (s.draw.2).clock = s.clock := rfl
@[simp] theorem State.draw_loader : (s.draw.2).loader = s.loader := rfl
@[simp] theorem State.draw_cfg : (s.draw.2).cfg = s.cfg := rfl
@[simp] theorem State.draw_crc : (s.draw.2).crc = s.crc := rfl
@[simp] theorem State.draw_inputs : (s.draw.2).inputs = s.inputs := rfl
@[simp] theorem State.draw_zoneFlag : (s.draw.2).zoneFlag = s.zoneFlag := rfl
@[simp] theorem State.draw_peers : (s.draw.2).peers = s.peers := rfl
@[simp] theorem State.draw_peerConfig : (s.draw.2).peerConfig = s.peerConfig := rfl
@[simp] theorem State.draw_clearance : (s.draw.2).clearance = s.clearance := rfl
@[simp] theorem State.draw_demand : (s.draw.2).demand = s.demand := rfl
@[simp] theorem State.draw_seq : (s.draw.2).seq = s.seq := rfl
@[simp] theorem State.draw_barrier : (s.draw.2).barrier = s.barrier := rfl
@[simp] theorem State.draw_signal : (s.draw.2).signal = s.signal := rfl
@[simp] theorem State.draw_hoist : (s.draw.2).hoist = s.hoist := rfl
@[simp] theorem State.draw_level : (s.draw.2).level = s.level := rfl
@[simp] theorem State.draw_halt : (s.draw.2).halt = s.halt := rfl
@[simp] theorem State.draw_hand : (s.draw.2).hand = s.hand := rfl
@[simp] theorem State.draw_lamps : (s.draw.2).lamps = s.lamps := rfl
@[simp] theorem State.draw_linkA : (s.draw.2).linkA = s.linkA := rfl
@[simp] theorem State.draw_linkB : (s.draw.2).linkB = s.linkB := rfl
@[simp] theorem State.draw_former : (s.draw.2).former = s.former := rfl
@[simp] theorem State.draw_pending : (s.draw.2).pending = s.pending := rfl

end Draw

/-! ### The fields an update does touch -/

@[simp] theorem State.setLink_link (s : State) (l : Link) (c : LinkController) : (s.setLink l c).link l = c := by
  cases l <;> rfl

theorem State.setLink_linkOther (s : State) {l l' : Link} (c : LinkController) (h : l' ≠ l) :
    (s.setLink l c).link l' = s.link l' := by
  cases l <;> cases l' <;> first | rfl | exact absurd rfl h

@[simp] theorem State.setPeer_peers (s : State) (i : Fin 16) (p : PeerEntry) :
    (s.setPeer i p).peers = s.peers.set i p := rfl

@[simp] theorem State.setInput_inputs (s : State) (i : Fin 16) (x : InputLine) :
    (s.setInput i x).inputs = s.inputs.set i x := rfl

@[simp] theorem State.setOutput_outputs (s : State) (i : Fin 12) (o : Output) :
    (s.setOutput i o).lamps.outputs = s.lamps.outputs.set i o := rfl

@[simp] theorem State.setOutput_phase (s : State) (i : Fin 12) (o : Output) :
    (s.setOutput i o).lamps.phase = s.lamps.phase := rfl

@[simp] theorem State.setOutput_reference (s : State) (i : Fin 12) (o : Output) :
    (s.setOutput i o).lamps.reference = s.lamps.reference := rfl

@[simp] theorem State.formTelegram_sequence (s : State) (k : SlotKind) (b : TelegramBody) :
    (s.formTelegram k b).former.sequence = s.former.sequence + 1 := rfl

@[simp] theorem State.formTelegram_linkA (s : State) (k : SlotKind) (b : TelegramBody) :
    (s.formTelegram k b).linkA =
      s.linkA.fill k { sender := byteOf s.own, seq := s.former.sequence, body := b } := rfl

@[simp] theorem State.formTelegram_linkB (s : State) (k : SlotKind) (b : TelegramBody) :
    (s.formTelegram k b).linkB =
      s.linkB.fill k { sender := byteOf s.own, seq := s.former.sequence, body := b } := rfl

@[simp] theorem State.leaveStep_step (s : State) (t : SupervisionTimer) : (s.leaveStep t).seq.step = none := rfl

@[simp] theorem State.leaveStep_stopping (s : State) (t : SupervisionTimer) : (s.leaveStep t).seq.stopping = false := rfl

@[simp] theorem State.leaveStep_supervision (s : State) (t : SupervisionTimer) :
    (s.leaveStep t).seq.supervision = t := rfl

@[simp] theorem State.leaveStep_interrupted (s : State) (t : SupervisionTimer) :
    (s.leaveStep t).seq.interrupted = s.seq.interrupted := rfl

@[simp] theorem State.leaveStep_journal (s : State) (t : SupervisionTimer) :
    (s.leaveStep t).seq.journal = s.seq.journal := rfl

@[simp] theorem State.leaveStep_speedRef (s : State) (t : SupervisionTimer) : (s.leaveStep t).level.speedRef = 0 := rfl

@[simp] theorem State.completeStep_journal (s : State) (st : Step) :
    (s.completeStep st).seq.journal = journalComplete st.dir s.seq.journal := rfl

@[simp] theorem State.completeStep_step (s : State) (st : Step) : (s.completeStep st).seq.step = none := rfl

@[simp] theorem State.beginStep_step (s : State) (st : Step) (b : Bool) :
    (s.beginStep st b).seq.step = some { step := st, begun := s.clock } := by
  unfold State.beginStep; split <;> rfl

@[simp] theorem State.beginStep_journal (s : State) (st : Step) (b : Bool) :
    (s.beginStep st b).seq.journal = journalBegin s.clock st s.seq.journal := by
  unfold State.beginStep; split <;> rfl

@[simp] theorem State.beginStep_supervision (s : State) (st : Step) (b : Bool) :
    (s.beginStep st b).seq.supervision = .running s.clock (100 * s.cfg.stepLimits[st.limit]) := by
  unfold State.beginStep; split <;> rfl

@[simp] theorem State.stopMotion_move (s : State) : s.stopMotion.hand.move = none := rfl

@[simp] theorem State.stopMotion_speedRef (s : State) : s.stopMotion.level.speedRef = 0 := rfl

@[simp] theorem State.stopMotion_step (s : State) : s.stopMotion.seq.step = none := by
  unfold State.stopMotion State.interruptStep
  split
  · rfl
  · assumption

@[simp] theorem State.stopMotion_journal (s : State) : s.stopMotion.seq.journal = s.seq.journal := by
  unfold State.stopMotion State.interruptStep; split <;> rfl

@[simp] theorem State.draw_drawn (s : State) : s.draw.2.drawn = s.drawn + 1 := rfl

end Sys2Proof.Machine
end

