-- ==== Sys2Proof/Laws/Operations.lean ====
section
/-!
SUPPORT. What each shared operation can do, said once: a proof about a command cites these and need not unfold the
operation.
-/

namespace Sys2Proof.Machine

/-! ### Sets and ranges -/

/-- A station number joins a set and no other number's membership changes. -/
theorem maskHas_maskAdd (m : StationMask) (n k : Nat) (h : n < 32) :
    maskHas (maskAdd m n) k = (maskHas m k || decide (k = n)) := by
  unfold maskHas maskAdd
  rw [BitVec.getLsbD_or, BitVec.getLsbD_twoPow]
  by_cases hk : k = n
  · subst hk; simp [h]
  · simp [hk, Ne.symm hk]

theorem LocalCause.index_lt (c : LocalCause) : c.index < 10 := by cases c <;> decide

theorem LocalCause.index_injective (c d : LocalCause) (h : c.index = d.index) : c = d := by
  cases c <;> cases d <;> first | rfl | exact absurd h (by decide)

/-- A cause joins a set and no other cause's membership changes. -/
theorem causeHas_causeAdd (cs : CauseSet) (c d : LocalCause) :
    causeHas (causeAdd cs c) d = (causeHas cs d || decide (d = c)) := by
  unfold causeHas causeAdd
  rw [BitVec.getLsbD_or, BitVec.getLsbD_twoPow]
  by_cases hd : d = c
  · subst hd; simp [d.index_lt]
  · have : c.index ≠ d.index := fun e => hd (LocalCause.index_injective c d e).symm
    simp [hd, this]

/-- A cause leaves a set and no other cause's membership changes. -/
theorem causeHas_causeRemove (cs : CauseSet) (c d : LocalCause) :
    causeHas (causeRemove cs c) d = (causeHas cs d && decide (d ≠ c)) := by
  unfold causeHas causeRemove
  rw [BitVec.getLsbD_and, BitVec.getLsbD_not, BitVec.getLsbD_twoPow]
  by_cases hd : d = c
  · subst hd; simp [d.index_lt]
  · have : c.index ≠ d.index := fun e => hd (LocalCause.index_injective c d e).symm
    simp [hd, this, d.index_lt]

theorem clampNat_bounds {lo hi : Nat} (x : Nat) (h : lo ≤ hi) : lo ≤ clampNat lo hi x ∧ clampNat lo hi x ≤ hi := by
  unfold clampNat; omega

theorem clampInt_bounds {lo hi : Int} (x : Int) (h : lo ≤ hi) : lo ≤ clampInt lo hi x ∧ clampInt lo hi x ≤ hi := by
  unfold clampInt; omega

/-! ### Slots -/

@[simp] theorem LinkController.slot_setSlot (c : LinkController) (k j : SlotKind) (t : Option Telegram) :
    (c.setSlot k t).slot j = if j = k then t else c.slot j := by
  cases k <;> cases j <;> rfl

/-- Placing a telegram: nothing on a FAILED link; else the slot holds it and no other slot changes. -/
theorem LinkController.slot_fill (c : LinkController) (k j : SlotKind) (t : Telegram) :
    (c.fill k t).slot j = if c.failed = false ∧ j = k then some t else c.slot j := by
  unfold LinkController.fill
  cases hf : c.failed
  · simp only [Bool.false_eq_true, if_false, true_and]
    exact LinkController.slot_setSlot c k j (some t)
  · simp

@[simp] theorem LinkController.fill_state (c : LinkController) (k : SlotKind) (t : Telegram) :
    (c.fill k t).state = c.state := by
  unfold LinkController.fill; split
  · rfl
  · cases k <;> rfl

@[simp] theorem LinkController.fill_failed (c : LinkController) (k : SlotKind) (t : Telegram) :
    (c.fill k t).failed = c.failed := by
  simp [LinkController.failed]

@[simp] theorem State.formTelegram_bothFailed (s : State) (k : SlotKind) (b : TelegramBody) :
    (s.formTelegram k b).bothFailed = s.bothFailed := by
  simp [State.bothFailed]

/-! ### Health -/

/-- A controller whose count is judged: count and state are taken; a controller that enters FAILED is emptied, any other
is otherwise as it was. -/
theorem LinkController.judge_cases (c : LinkController) (n : Nat) :
    (c.judge n).health = n ∧ (c.judge n).state = c.state.judge n ∧ (c.judge n).captured = c.captured ∧
      (c.judge n).silence = c.silence ∧
      ((c.failed = false ∧ (c.judge n).failed = true ∧ (c.judge n).silent = true) ∨
        ((c.failed = true ∨ (c.judge n).failed = false) ∧
          c.judge n = { c with state := c.state.judge n, health := n })) := by
  unfold LinkController.judge
  cases hf : c.failed <;> cases hs : (c.state.judge n == LinkState.failed) <;>
    simp_all [LinkController.failed, LinkController.silent]

/-- The causes of isolation after a change of a link's health: ISOLATED arises while both links are FAILED, is removed
when that ends, and the halt record is untouched otherwise. -/
theorem State.setHealth_cases (s : State) (l : Link) (n : Nat) :
    let s1 := s.setLink l ((s.link l).judge n)
    (s1.bothFailed = true ∧ s.setHealth l n = s1.raiseCause .isolated) ∨
    (s1.bothFailed = false ∧ s.bothFailed = true ∧ s.setHealth l n = s1.removeLive .isolated) ∨
    (s1.bothFailed = false ∧ s.bothFailed = false ∧ s.setHealth l n = s1) := by
  unfold State.setHealth
  cases h1 : (s.setLink l ((s.link l).judge n)).bothFailed <;> cases h2 : s.bothFailed <;> simp [h1]

/-! ### Steps -/

/-- Interrupting: with a step in progress it becomes the interrupted step and its timer is suspended; else nothing. -/
theorem State.interruptStep_cases (s : State) :
    (s.seq.step = none ∧ s.interruptStep = s) ∨
    ∃ p, s.seq.step = some p ∧ s.interruptStep.seq.step = none ∧ s.interruptStep.seq.interrupted = some p.step ∧
      s.interruptStep.seq.supervision = .suspended (s.seq.supervision.elapsed s.clock) ∧
      s.interruptStep.seq.journal = s.seq.journal ∧ s.interruptStep.level.speedRef = 0 := by
  unfold State.interruptStep
  cases h : s.seq.step with
  | none => exact .inl ⟨rfl, rfl⟩
  | some p => exact .inr ⟨p, rfl, rfl, rfl, rfl, rfl, rfl⟩

/-- A reversal: nothing without a travel step, the end of a barrier's travel, the stopping stage of a hoist's. -/
theorem State.stopTravel_cases (s : State) :
    s.stopTravel = s ∨ (∃ st, s.stepNow = some st ∧ st.kind = .lower ∧ s.stopTravel = s.endStep) ∨
    (∃ st, s.stepNow = some st ∧ st.kind = .raise ∧
      s.stopTravel = { s with seq := { s.seq with stopping := true } }) := by
  unfold State.stopTravel
  cases h : s.stepNow with
  | none => exact .inl rfl
  | some st => obtain ⟨k, d⟩ := st; cases k <;> simp

/-! ### The halt record -/

/-- A station number joins the origins; at a station not halted it becomes the first origin and motion stops. -/
theorem State.addOrigin_cases (s : State) (n : Nat) (r : HaltReason) :
    (s.halted = true ∧ s.addOrigin n r = { s with halt := { s.halt with origins := maskAdd s.halt.origins n } }) ∨
    (s.halted = false ∧
      (s.addOrigin n r).halt =
        { s.halt with origins := maskAdd s.halt.origins n, firstOrigin := some n, firstReason := some r } ∧
      (s.addOrigin n r).seq.step = none ∧ (s.addOrigin n r).hand.move = none ∧
      (s.addOrigin n r).level.speedRef = 0 ∧ (s.addOrigin n r).seq.journal = s.seq.journal) := by
  unfold State.addOrigin
  cases h : s.halted <;> simp

@[simp] theorem State.formHalt_halt (s : State) (r : HaltReason) : (s.formHalt r).halt = s.halt := by
  unfold State.formHalt; split <;> simp

@[simp] theorem State.formHalt_seq (s : State) (r : HaltReason) : (s.formHalt r).seq = s.seq := by
  unfold State.formHalt; split <;> simp

@[simp] theorem State.formHalt_level (s : State) (r : HaltReason) : (s.formHalt r).level = s.level := by
  unfold State.formHalt; split <;> simp

@[simp] theorem State.formHalt_hand (s : State) (r : HaltReason) : (s.formHalt r).hand = s.hand := by
  unfold State.formHalt; split <;> simp

/-- A cause that is present already changes nothing; another is put, and the own number joins the origins. -/
theorem State.raiseCause_cases (s : State) (c : LocalCause) :
    (s.halt.has c = true ∧ s.raiseCause c = s) ∨
    (s.halt.has c = false ∧
      s.raiseCause c = (({ s with halt := s.halt.put c } : State).addOrigin s.own (.cause c)).formHalt (.cause c)) := by
  unfold State.raiseCause
  cases h : s.halt.has c <;> simp

/-- Taking a RESUME: the record is cleared; a station thereby resumed drops its interrupted step. -/
theorem State.resume_cases (s : State) :
    s.resume.halt = s.halt.resumed s.own s.estopInput ∧
    (s.resume = { s with halt := s.halt.resumed s.own s.estopInput } ∨
      s.halted = true ∧
        s.resume = ({ s with halt := s.halt.resumed s.own s.estopInput } : State).discardInterrupted) := by
  unfold State.resume State.discardInterrupted
  cases h : s.halted <;>
    cases h2 : ({ s with halt := s.halt.resumed s.own s.estopInput } : State).halted <;>
    cases h3 : s.seq.step <;> simp_all

/-! ### Demands -/

/-- A received demand is ignored or adopted, and is adopted exactly when it exceeds the adopted one. -/
theorem State.receiveDemand_cases (s : State) (d : Demand) :
    (d.exceeds s.demand.adopted = false ∧ s.receiveDemand d = s) ∨
    (d.exceeds s.demand.adopted = true ∧ s.receiveDemand d = s.adopt d) := by
  unfold State.receiveDemand
  cases h : d.exceeds s.demand.adopted <;> simp

/-- An adoption takes the demand and clears the stall supervision, whatever it does to travel. -/
theorem State.adopt_demand (s : State) (d : Demand) :
    (s.adopt d).demand = { s.demand with adopted := some d, stallTimer := .stopped, stalled := false } := by
  unfold State.adopt
  dsimp only
  split
  · split
    · rfl
    · unfold State.stopTravel
      split
      · split <;> rfl
      · rfl
  · rfl

/-! ### PWM periods -/

/-- An output that becomes driven starts a PWM period with the duty in place; any other keeps what it has. -/
theorem Output.followDriven_cases (c : StationConfig) (wasDriven : Bool) (o : Output) :
    (o.driven = true ∧ wasDriven = false ∧
      o.followDriven c wasDriven = { o with pwm := 0, pwmDuty := o.dutyInPlace c }) ∨
    ((o.driven = false ∨ wasDriven = true) ∧ o.followDriven c wasDriven = o) := by
  unfold Output.followDriven
  cases o.driven <;> cases wasDriven <;> simp

/-- A millisecond runs the PWM period of a driven output on, and does nothing to another. -/
theorem Output.tick_cases (c : StationConfig) (o : Output) :
    (o.driven = true ∧
      o.tick c = { o with pwm := (o.pwm + 1000) % c.pwmPeriod, pwmDuty := o.dutyAt c 1000 }) ∨
    (o.driven = false ∧ o.tick c = o) := by
  unfold Output.tick
  cases o.driven <;> simp

/-- An output that is not driven does not conduct. -/
theorem Output.conducts_driven (c : StationConfig) (o : Output) (u : Nat) (h : o.conducts c u = true) :
    o.driven = true := by
  unfold Output.conducts at h
  exact (Bool.and_eq_true _ _ ▸ h).1

/-! ### The end of an event -/

/-- When the present skew allows a start of travel (R81, R83). -/
theorem State.skewAllowsStart_iff {s : State} : s.skewAllowsStart = true ↔
    (∃ k, s.level.skew = some k ∧ k ≤ s.cfg.skewWarn ∧ s.level.skewFull = true) ∨
      s.level.skew = none ∧ s.flagged .hoist = [] := by
  cases h : s.level.skew <;> simp [State.skewAllowsStart, h]

/-- When a reversal stops a travel step: another kind stands adopted after the event, and a LOWER or a RAISE was in
progress before it (R27, R34). -/
theorem State.reversalStopped_iff {before after : State} : before.reversalStopped after = true ↔
    before.adoptedKind ≠ none ∧ before.adoptedKind ≠ after.adoptedKind ∧
      ∃ p, before.seq.step = some p ∧ (p.step.kind = .lower ∨ p.step.kind = .raise) := by
  cases hs : before.seq.step <;>
    simp [State.reversalStopped, State.stepNow, Step.isTravel, hs, Option.isSome_iff_ne_none, and_assoc]

/-- The end of an event: the reactions, and nothing more or the note of a change. -/
theorem State.conclude_cases (before after : State) :
    State.conclude before after = after.react (before.reversalStopped after) ∨
    State.conclude before after = (after.react (before.reversalStopped after)).noteChange before.bothFailed := by
  unfold State.conclude
  dsimp only
  split <;> simp

/-- The note of a change: the change-pending flag set, or a STATUS formed. -/
theorem State.noteChange_cases (s : State) (b : Bool) :
    s.noteChange b = { s with former := { s.former with changePending := true } } ∨
    (s.bothFailed = false ∧ s.noteChange b = s.formStatus) := by
  unfold State.noteChange
  cases s.bothFailed <;> cases b <;> cases s.former.gap.isRunning <;> simp

end Sys2Proof.Machine
end

