-- ==== Sys2Proof/Laws/Reactions.lean ====
section
/-!
SUPPORT. What the shared operations leave alone: each keeps the untouched part of the state (`State.still`), down to the
reactions of an event and the forming of its STATUS.
-/

namespace Sys2Proof.Machine

@[simp] theorem LinkController.fill_still (c : LinkController) (k : SlotKind) (t : Telegram) :
    (c.fill k t).still = c.still := by
  unfold LinkController.fill
  split
  · rfl
  · cases k <;> rfl

@[simp] theorem Level.begin_still (v : Level) : v.begin_.still = v.still := rfl

@[simp] theorem State.place_still (s : State) (k : SlotKind) (t : Telegram) : (s.place k t).still = s.still := by
  simp [State.place, State.still]

@[simp] theorem State.formTelegram_still (s : State) (k : SlotKind) (b : TelegramBody) :
    (s.formTelegram k b).still = s.still := by
  simp only [State.formTelegram, State.place_still]
  rfl

@[simp] theorem State.formHalt_still (s : State) (r : HaltReason) : (s.formHalt r).still = s.still := by
  unfold State.formHalt
  split <;> simp

@[simp] theorem State.formResume_still (s : State) : s.formResume.still = s.still := by
  unfold State.formResume
  split <;> simp

@[simp] theorem State.leaveStep_still (s : State) (t : SupervisionTimer) : (s.leaveStep t).still = s.still := rfl

@[simp] theorem State.endStep_still (s : State) : s.endStep.still = s.still := rfl

@[simp] theorem State.completeStep_still (s : State) (st : Step) : (s.completeStep st).still = s.still := rfl

@[simp] theorem State.interruptStep_still (s : State) : s.interruptStep.still = s.still := by
  unfold State.interruptStep
  split <;> rfl

@[simp] theorem State.discardInterrupted_still (s : State) : s.discardInterrupted.still = s.still := by
  unfold State.discardInterrupted
  split <;> rfl

@[simp] theorem State.beginStep_still (s : State) (st : Step) (b : Bool) : (s.beginStep st b).still = s.still := by
  unfold State.beginStep
  split <;> rfl

@[simp] theorem State.stopTravel_still (s : State) : s.stopTravel.still = s.still := by
  unfold State.stopTravel
  split
  · split <;> rfl
  · rfl

@[simp] theorem State.stopMotion_still (s : State) : s.stopMotion.still = s.still := by
  rw [← State.interruptStep_still s]
  rfl

@[simp] theorem State.addOrigin_still (s : State) (n : Nat) (r : HaltReason) : (s.addOrigin n r).still = s.still := by
  unfold State.addOrigin
  split
  · rfl
  · rw [State.stopMotion_still]
    rfl

@[simp] theorem State.raiseCause_still (s : State) (c : LocalCause) : (s.raiseCause c).still = s.still := by
  unfold State.raiseCause
  split
  · rfl
  · rw [State.formHalt_still, State.addOrigin_still]
    rfl

theorem State.foldl_raiseCause_still (cs : List LocalCause) (s : State) :
    (cs.foldl State.raiseCause s).still = s.still := by
  induction cs generalizing s with
  | nil => rfl
  | cons c cs ih => rw [List.foldl_cons, ih, State.raiseCause_still]

@[simp] theorem State.raiseCauses_still (s : State) (cs : List LocalCause) : (s.raiseCauses cs).still = s.still := by
  unfold State.raiseCauses
  split
  · rfl
  · simp
  · simp only [State.draw, State.foldl_raiseCause_still]
    rfl

@[simp] theorem State.removeLive_still (s : State) (c : LocalCause) : (s.removeLive c).still = s.still := rfl

@[simp] theorem State.resume_still (s : State) : s.resume.still = s.still := by
  unfold State.resume
  dsimp only
  split
  · rw [State.discardInterrupted_still]
    rfl
  · rfl

@[simp] theorem State.enterHand_still (s : State) : s.enterHand.still = s.still := by
  rw [← State.discardInterrupted_still s]
  rfl

@[simp] theorem State.grantHand_still (s : State) : s.grantHand.still = s.still := by
  unfold State.grantHand
  split <;> simp

@[simp] theorem State.keyActive_still (s : State) : s.keyActive.still = s.still := by
  unfold State.keyActive
  split
  · split
    · simp
    · rfl
  · rfl

@[simp] theorem State.endHandMove_still (s : State) : s.endHandMove.still = s.still := by
  unfold State.endHandMove
  split <;> rfl

@[simp] theorem State.followHandMove_still (s : State) : s.followHandMove.still = s.still := by
  unfold State.followHandMove
  split <;> simp

@[simp] theorem State.followHandshake_still (s : State) : s.followHandshake.still = s.still := rfl

@[simp] theorem State.followReference_still (s : State) : s.followReference.still = s.still := by
  unfold State.followReference
  dsimp only
  split <;> rfl

@[simp] theorem State.followPrewarn_still (s : State) : s.followPrewarn.still = s.still := by
  unfold State.followPrewarn
  split
  · split
    · split <;> rfl
    · rfl
  · rfl

@[simp] theorem State.followEvidence_still (s : State) : s.followEvidence.still = s.still := by
  unfold State.followEvidence
  split
  · split <;> rfl
  · rfl

@[simp] theorem State.followStall_still (s : State) : s.followStall.still = s.still := by
  unfold State.followStall
  split
  · split <;> rfl
  · rfl

@[simp] theorem State.endRecovery_still (s : State) : s.endRecovery.still = s.still := rfl

@[simp] theorem State.followRecovery_still (s : State) : s.followRecovery.still = s.still := by
  unfold State.followRecovery
  split <;> simp

@[simp] theorem State.followLamps_still (s : State) : s.followLamps.still = s.still := rfl

/-- Everything a move that ends a step can be. -/
theorem State.endMove_cases {s : State} {st : Step} {r : Bool × State} (h : s.endMove st = some r) :
    (s.greenLost = true ∧ r = (false, s.endStep.beginStep { kind := .green, dir := .inverse } false)) ∨
    (s.greenLost = false ∧ s.travelCauses ≠ [] ∧ s.completionCondition st = true ∧
      (r = (st == { kind := .raise, dir := .inverse }, s.draw.2.completeStep st) ∨
        r = (false, s.draw.2.raiseCauses s.travelCauses))) ∨
    (s.greenLost = false ∧ s.travelCauses ≠ [] ∧ s.completionCondition st = false ∧
      r = (false, s.raiseCauses s.travelCauses)) ∨
    (s.greenLost = false ∧ s.travelCauses = [] ∧ s.completionCondition st = true ∧
      r = (st == { kind := .raise, dir := .inverse }, s.completeStep st)) ∨
    (s.greenLost = false ∧ s.travelCauses = [] ∧ s.completionCondition st = false ∧ s.seatedEndsStop = true ∧
      r = (false, s.endStep)) := by
  unfold State.endMove at h
  cases hg : s.greenLost <;> cases hc : s.completionCondition st <;> cases hs : s.seatedEndsStop <;>
    cases ht : s.travelCauses <;> cases hd : s.draw.1 <;> simp_all

/-- Everything a move that begins a step can be. -/
theorem State.beginMove_cases {s : State} {held b : Bool} {r : Bool × State} (h : s.beginMove held b = some r) :
    ∃ st, s.candidate = some st ∧ s.mayBegin = true ∧ s.startCondition st = true ∧
      (held = true → st.isTravel = false) ∧ r = (false, s.beginStep st b) := by
  unfold State.beginMove at h
  split at h
  · split at h
    · rename_i st hst hc
      simp only [Bool.and_eq_true, Bool.not_eq_true'] at hc
      exact ⟨st, hst, hc.1.1, hc.1.2, fun hh => by simpa [hh] using hc.2, by simpa using h.symm⟩
    · cases h
  · cases h

/-- A property that the settling and every move keep is kept by the sequencer's work at an event. -/
theorem State.advance_keeps {P : State → Prop} {held : Bool} (settles : ∀ s, P s → P s.settle)
    (moves : ∀ s b r, P s → s.nextMove held b = some r → P r.2) (n : Nat) (b : Bool) (s : State) (h : P s) :
    P (State.advance held n b s) := by
  induction n generalizing b s with
  | zero => exact h
  | succ n ih =>
    simp only [State.advance]
    split
    · rename_i heq
      exact ih _ _ (moves _ _ _ (settles s h) heq)
    · exact settles s h

@[simp] theorem State.settle_still (s : State) : s.settle.still = s.still := by
  unfold State.settle
  dsimp only
  split <;> simp

@[simp] theorem State.draw_still (s : State) : s.draw.2.still = s.still := rfl

theorem State.nextMove_still {s : State} {held b : Bool} {r : Bool × State} (h : s.nextMove held b = some r) :
    r.2.still = s.still := by
  unfold State.nextMove at h
  split at h
  · rcases State.endMove_cases h with h | h | h | h | h
    · simp [h.2]
    · rcases h.2.2.2 with h | h <;> simp [h]
    · simp [h.2.2.2]
    · simp [h.2.2.2]
    · simp [h.2.2.2.2]
  · obtain ⟨st, -, -, -, -, rfl⟩ := State.beginMove_cases h
    simp

@[simp] theorem State.advance_still (held : Bool) (n : Nat) (b : Bool) (s : State) :
    (State.advance held n b s).still = s.still :=
  State.advance_keeps (P := fun t => t.still = s.still) (fun _ h => by simpa using h)
    (fun _ _ _ h hm => (State.nextMove_still hm).trans h) n b s rfl

/-- The reactions of an event leave the untouched part alone. -/
@[simp] theorem State.react_still (held : Bool) (s : State) : (s.react held).still = s.still := by
  simp [State.react]

@[simp] theorem State.formStatus_still (s : State) : s.formStatus.still = s.still := by
  unfold State.formStatus
  split
  · rfl
  · rw [← State.formTelegram_still s .status (.status s.statusBody)]
    rfl

@[simp] theorem State.noteChange_still (s : State) (b : Bool) : (s.noteChange b).still = s.still := by
  unfold State.noteChange
  split
  · rfl
  · simp

/-- The end of an event leaves the untouched part as the event's own effect left it. -/
@[simp] theorem State.conclude_still (before after : State) : (State.conclude before after).still = after.still := by
  unfold State.conclude
  dsimp only
  split <;> simp

end Sys2Proof.Machine
end

