-- ==== Sys2Proof/Tests/Slice0.lean ====
section
/-!
SUPPORT. The model's own tests: the formats and worked examples of the manual, one step at a time, and for every
statement with hypotheses a concrete state that meets them.
-/

namespace Sys2Proof.Tests

open Sys2Proof.Machine

/-! ### Well-formed commands: an ill-formed term for each check -/

theorem test_image_of_no_bytes_is_ill_formed : (Instr.imageReadEnd (some [])).wellFormed = false := by decide

theorem test_broken_off_reception_is_no_bad_check : (Instr.badCheckReception .a [0x00, 0x05]).wellFormed = false := by
  decide

theorem test_broken_off_reception_is_not_valid : (Instr.failedLinkReception .a [0x00, 0x05]).wellFormed = false := by
  decide

theorem test_broken_off_reception_is_not_malformed : (Instr.malformedTelegram .a [0x00]).wellFormed = false := by decide

theorem test_no_bytes_carry_no_number : (Instr.ownNumberTelegram .a []).wellFormed = false := by decide

/-- A STATUS body of signal station 2 in IDLE with nothing to report. -/
def idleBody : StatusBody :=
  { role := 3, hand := false, handPending := false, agreed := false, flashActive := false, phase := 0, lock := 0,
    faults := 0, proven := 0, stamp := 0, echo := none, halt := none, hoist := none, zone := none }

theorem test_sender_zero_is_ill_formed :
    (Instr.statusReceived .a 0 1 idleBody).wellFormed = false ∧ (Instr.demandReceived .a 0 1 1 7).wellFormed = false ∧
      (Instr.queryReceived .a 0 1 5).wellFormed = false := by decide

theorem test_sender_32_is_ill_formed :
    (Instr.haltReceived .a 32 1 0x3E 1).wellFormed = false ∧ (Instr.resumeReceived .a 32 1 0x3E).wellFormed = false := by
  decide

theorem test_record_of_no_bytes_is_ill_formed : (Instr.recordReceived .a 5 1 []).wellFormed = false := by decide

/-! ### The check and the telegrams (R153, R172, R173) -/

/-- The manual's check value: over the nine ASCII bytes "123456789" it is 29B1 hex (R153). -/
theorem test_check_of_123456789 : crc [0x31, 0x32, 0x33, 0x34, 0x35, 0x36, 0x37, 0x38, 0x39] = 0x29B1 := by
  decide +kernel

/-- A HALT of station 5, number 7, for stations 1 to 5, for ESTOP: the header, the mask and the reason of R172. -/
theorem test_halt_bytes :
    encodeTelegram { sender := 5, seq := 7, body := .halt 0x3E 1 } = [0, 5, 1, 7, 5, 0, 0, 0, 0x3E, 1] ∧
      decodeTelegram [0, 5, 1, 7, 5, 0, 0, 0, 0x3E, 1] = some { sender := 5, seq := 7, body := .halt 0x3E 1 } := by
  decide

theorem test_resume_bytes :
    decodeTelegram [0, 1, 2, 41, 4, 0, 0, 0x7F, 0xFC] = some { sender := 1, seq := 41, body := .resume 0x7FFC } := by
  decide

theorem test_demand_bytes :
    decodeTelegram [1, 8, 3, 200, 3, 2, 0x01, 0x2C] = some { sender := 8, seq := 200, body := .demand 2 300 } := by
  decide

theorem test_query_bytes :
    decodeTelegram [3, 31, 5, 0, 1, 12] = some { sender := 31, seq := 0, body := .query 12 } := by decide

/-- A STATUS of hoist 12 written out byte by byte from R173: RAISING (4), flash active, agreed, halted, hoist part and
echo; faults SKEW_WARN and OPERATOR (bits 8 and 18); stamp 720; echo (7, 1) OPEN; halted by 4 for STEP_TIME; height 5210,
speed -180, SAT. -/
theorem test_status_bytes :
    decodeTelegram ([2, 12, 4, 17, 22] ++ [2, 0xBC, 4, 1, 0x00, 0x04, 0x01, 0x00, 0x80, 0x02, 0xD0] ++
        [1, 0x00, 0x07, 1] ++ [4, 3] ++ [0x14, 0x5A, 0xFF, 0x4C, 0x01]) =
      some
        { sender := 12, seq := 17
          body := .status
            { role := 2, hand := false, handPending := false, agreed := true, flashActive := true, phase := 4, lock := 1,
              faults := 0x40100, proven := 0x80, stamp := 720, echo := some { issuer := 1, number := 7, kind := 1 },
              halt := some { origin := 4, reason := 3 },
              hoist := some { height := 5210, speed := BitVec.ofInt 16 (-180), sat := true, skewWarn := false },
              zone := none } } := by
  decide

/-- A RECORD of a station with no journal, step or peers: 92 bytes (R174). -/
theorem test_record_length_of_empty_station : recordLength (List.replicate 92 0) = 92 := by decide

/-- A class that is not its kind's, sender 0, an unknown kind and a body of the wrong length are malformed (R172). -/
theorem test_malformed_telegrams :
    decodeTelegram [1, 5, 1, 7, 5, 0, 0, 0, 0x3E, 1] = none ∧ decodeTelegram [3, 0, 5, 0, 1, 12] = none ∧
      decodeTelegram [3, 31, 7, 0, 1, 12] = none ∧ decodeTelegram [3, 31, 5, 0, 2, 12, 0] = none := by
  decide

/-- A whole QUERY with its check is received as that QUERY. -/
theorem test_framed_query_is_received :
    receptionCommand 5 false .b (frameTelegram { sender := 31, seq := 0, body := .query 12 }) =
      .queryReceived .b 31 0 12 := by
  decide +kernel

theorem test_no_row_has_bits (nbits w : Nat) : decodeTableWord nbits w = none := rfl

/-! ### Judgement of sequence numbers: the manual's table (section 1.2) -/

/-- A TRACKED entry that holds L. -/
def holding (last : Byte) : PeerEntry := { station := 12, role := .hoist, state := .tracked, lastSeq := some last }

theorem test_sequence_judgements :
    (holding 40).accepts 41 = true ∧ (holding 40).accepts 40 = false ∧ (holding 40).accepts 39 = false ∧
      (holding 250).accepts 3 = true ∧ (holding 3).accepts 250 = false ∧ (holding 10).accepts 137 = true ∧
      (holding 10).accepts 138 = false := by
  decide

/-- The manual's hoist peer at 1103: STATUS 20 after 19 makes the ACQUIRING entry TRACKED, its deadline at 1223. -/
theorem test_acquiring_becomes_tracked :
    let p : PeerEntry := { holding 19 with state := .acquiring, deadline := .running 1053 120 }
    let q := p.takeStatus 120 { now := 1103, captured := 0, link := .b } 20 { idleBody with role := 2 }
    q.state = .tracked ∧ q.lastSeq = some 20 ∧ q.deadline = .running 1103 120 := by
  decide

/-- The manual's hoist peer at 1053: STATUS 19 after 17 leaves the entry ACQUIRING. -/
theorem test_acquiring_stays_after_a_gap :
    let p : PeerEntry := { holding 17 with state := .acquiring, deadline := .running 1003 120 }
    let q := p.takeStatus 120 { now := 1053, captured := 0, link := .a } 19 { idleBody with role := 2 }
    q.state = .acquiring ∧ q.lastSeq = some 19 ∧ q.deadline = .running 1053 120 := by
  decide

/-- The manual's hoist peer at 1810: the third missed deadline makes the entry LOST. -/
theorem test_third_missed_deadline_is_lost :
    let q := ({ holding 27 with deficit := 2, deadline := .running 1690 120 } : PeerEntry).missDeadline 1810 120 3
    q.state = .lost ∧ q.lastSeq = none ∧ q.deficit = 3 ∧ q.deadline = .stopped := by
  decide

/-! ### Level control: the manual's raise at normal speed and its lowering near the seat (section 6.11) -/

/-- A hoist report of that height and speed. -/
def hoistReport (height : Nat) (speed : Int) (receipt : Time) : Report :=
  { body :=
      { idleBody with
        role := 2
        hoist := some
          { height := BitVec.ofNat 16 height, speed := BitVec.ofInt 16 speed, sat := false, skewWarn := false } }
    receipt := receipt, captured := 0, link := .a }

/-- A TRACKED hoist peer with that report. -/
def hoistPeer (station height : Nat) (speed : Int) (receipt : Time) : PeerEntry :=
  { station := station, role := .hoist, flags := 0x21, state := .tracked, lastSeq := some 1,
    report := some (hoistReport height speed receipt) }

/-- The manual's parameters of section 6.11, and the other times a running station needs. -/
def levelConfig : StationConfig :=
  { station := 11, role := .hoist, vMax := 300, vFull := 250, vCreep := 20, ramp := 40, decel := 40, kp := 64, ki := 32,
    cMax := 40, hTop := 36000, hSeat := 400, stopBand := 10, seatBand := 200, skewWarn := 25, skewTrip := 60,
    flashPeriod := 1000, lostThreshold := 3 }

/-- The first hoist of section 6.11 at its expiry at station time 1000. -/
def raising : State :=
  { stage := .running, clock := 1000, cfg := levelConfig
    peers := ((Vector.replicate 16 {} : Vector PeerEntry 16).set 0 (hoistPeer 12 5210 200 960)).set 1
      (hoistPeer 13 5246 200 990) |>.set 2 (hoistPeer 14 5225 195 970)
    level := { timer := .running 980 20, accumulator := 150 }
    seq := { step := some { step := { kind := .raise, dir := .forward }, begun := 0 }
             supervision := .running 0 90000
             journal := [{ step := .raise, state := .partway, start := 0 },
                         { step := .withdraw, state := .done, start := 0 }] }
    demand := { adopted := some { number := 7, issuer := 1, kind := .openBridge } }
    lamps := { phase := some 100 } }

/-- The state that a command answers; the state itself where it answers none. -/
def after (c : Instr) (s : State) : State :=
  match exec c s with
  | .next t => t
  | _ => s

/-- Heights 5218, 5248 and 5230, mean 5232, error -2, accumulator 148, skew 18, profile 229, reference 235. -/
theorem test_raise_at_normal_speed :
    raising.peerHeights = [5218, 5248, 5230] ∧
      (after (.controlPeriodExpiry (some 5230)) raising).level =
        { raising.level with
          timer := .running 1000 20, height := 5230, expiryHeight := 5230, mean := 5232, error := -2, accumulator := 148,
          skew := some 18, skewFull := true, skewWarn := false, profile := 229, speedRef := 235, line := some 235 } := by
  decide

/-- Heights 995, 1007 and 1028, mean 1008, error -8, the accumulator saturated, skew 28 above the warning, profile 20,
reference 0. -/
theorem test_lowering_near_the_seat :
    let peers : List Nat := [extrapolate 2000 1600 { height := 1040, speed := BitVec.ofInt 16 (-180), sat := false, skewWarn := false },
      extrapolate 2000 1970 { height := 1013, speed := BitVec.ofInt 16 (-200), sat := false, skewWarn := false },
      extrapolate 2000 1980 { height := 1031, speed := BitVec.ofInt 16 (-190), sat := false, skewWarn := false }]
    peers = [995, 1007, 1028] ∧ meanHeight 1000 peers = 1008 ∧ levelError 1000 1008 = -8 ∧
      accumulate (-1048570) (-8) = -1048576 ∧ correction 64 32 40 (-8) (-1048576) = -40 ∧
      travelProfile levelConfig 35000 600 = 44 ∧ skewOf 1000 peers = 28 ∧ speedReference false 300 20 (-40) = 0 := by
  decide

/-- The manual's stop during the raise: references 195, 153, 111, 69, 26 and 0 (section 6.11). -/
theorem test_stop_references :
    speedReference true 300 189 (-6) = 195 ∧ speedReference true 300 149 (-4) = 153 ∧
      speedReference true 300 29 3 = 26 ∧ speedReference true 300 0 5 = 0 := by
  decide

/-! ### Lamps: the manual's corrections and duties (sections 8.2 and 8.4) -/

/-- The 1st, 5th and 6th STATUS of the manual's table, and the phase captured at 222: differences 242, 42, 0 and -500. -/
theorem test_phase_differences :
    phaseDifference 1000 720 2 480 = 242 ∧ phaseDifference 1000 920 2 880 = 42 ∧ phaseDifference 1000 970 2 972 = 0 ∧
      phaseDifference 1000 720 2 222 = -500 := by
  decide

/-- With ambient 100 and a floor of 40: LINEAR 124, SQUARE 73; with 0 and a floor of 0 under diagnostics 32. -/
theorem test_duties :
    ({ dimFloor := 40, dimCurve := .linear } : StationConfig).dutyFor { dim := true } 100 = 124 ∧
      ({ dimFloor := 40, dimCurve := .square } : StationConfig).dutyFor { dim := true } 100 = 73 ∧
      ({ dimFloor := 0, dimCurve := .linear } : StationConfig).dutyFor { dim := true } 0 = 0 ∧
      ({ dimFloor := 0, dimCurve := .square } : StationConfig).dutyFor { dim := true, diagnostics := true } 0 = 32 := by
  decide

/-! ### The configuration image: the manual's hoist image (section 11.4) -/

/- V_max 700, V_full 650, V_creep 0, SKEW_WARN 500, SKEW_TRIP 300 and P 1301. Its check was computed outside the model. -/

/-- The hoist image: identity, role, approach, links, halt mask and desk set (offsets 0 to 21). -/
def imageHead : List Byte :=
  [84, 52, 11, 2, 0, 0, 1, 50, 0, 120, 3, 0, 200, 2, 20, 0, 0, 0, 127, 254, 1, 8]

/-- The hoist image: peer records, three of sixteen in use (22 to 45). -/
def imagePeers : List Byte :=
  [2, 3, 65, 5, 1, 24, 12, 2, 33] ++ List.replicate 15 0

/-- The hoist image: the peer records not in use (46 to 69). -/
def imageNoPeers : List Byte :=
  List.replicate 24 0

/-- The hoist image: step limits and the four times (70 to 85). -/
def imageTimes : List Byte :=
  [0, 150, 3, 132, 3, 132, 0, 100, 0, 1, 0, 1, 5, 5, 10, 10]

/-- The hoist image: the level fields and the flash period with its window and slew (86 to 112). -/
def imageLevel : List Byte :=
  [2, 188, 2, 138, 0, 0, 0, 40, 40, 64, 32, 40, 140, 160, 1, 144, 10, 0, 200, 1, 244, 1, 44, 5,
   21, 20, 50]

/-- The hoist image: output records and MIN_PROVEN (113 to 143). -/
def imageOutputs : List Byte :=
  [7, 11, 12, 0, 0, 0, 0, 0, 0, 0, 0, 0, 0, 0, 0, 0, 0, 0, 0, 0, 0, 0, 0, 0, 1, 1, 1, 1, 1, 1,
   1]

/-- The hoist image: the lamp fields (144 to 158). -/
def imageLamps : List Byte :=
  [0, 80, 3, 132, 2, 88, 4, 5, 64, 1, 2, 40, 1, 1, 0]

/-- The hoist image: bytes that are only checked, of which 95 stand at 159 to 253. -/
def imageRest (n : Nat) : List Byte := List.replicate n 0

/-- The bytes under the check. -/
def imageBody : List Byte :=
  imageHead ++ (imagePeers ++ (imageNoPeers ++ (imageTimes ++ (imageLevel ++ (imageOutputs ++
    (imageLamps ++ (imageRest 32 ++ (imageRest 32 ++ (imageRest 31)))))))))

/-- The image with its check. -/
def hoistImage : List Byte := imageBody ++ [0x9b, 0xf8]

theorem hoistImage_take : hoistImage.take 254 = imageBody := List.take_left' (by decide +kernel)

theorem check_imageHead : imageHead.foldl crcByte 0xffff = 0x56d7 := by decide +kernel
theorem check_imagePeers : imagePeers.foldl crcByte 0x56d7 = 0x3a23 := by decide +kernel
theorem check_imageNoPeers : imageNoPeers.foldl crcByte 0x3a23 = 0xc93b := by decide +kernel
theorem check_imageTimes : imageTimes.foldl crcByte 0xc93b = 0x69e7 := by decide +kernel
theorem check_imageLevel : imageLevel.foldl crcByte 0x69e7 = 0xdbb6 := by decide +kernel
theorem check_imageOutputs : imageOutputs.foldl crcByte 0xdbb6 = 0xc1d6 := by decide +kernel
theorem check_imageLamps : imageLamps.foldl crcByte 0xc1d6 = 0x5648 := by decide +kernel
theorem check_rest1 : (imageRest 32).foldl crcByte 0x5648 = 0x8f8a := by decide +kernel
theorem check_rest2 : (imageRest 32).foldl crcByte 0x8f8a = 0x2373 := by decide +kernel
theorem check_rest3 : (imageRest 31).foldl crcByte 0x2373 = 0x9bf8 := by decide +kernel

/-- The check over bytes 0 to 253, computed piece by piece. -/
theorem hoistImage_check : imageCheck hoistImage = 0x9bf8 := by
  rw [imageCheck, hoistImage_take, crc, imageBody]
  simp only [List.foldl_append]
  rw [check_imageHead, check_imagePeers, check_imageNoPeers, check_imageTimes, check_imageLevel, check_imageOutputs, check_imageLamps, check_rest1, check_rest2, check_rest3]

theorem hoistImage_accepted : imageAccepted hoistImage = true := by
  have h : (imageCheck hoistImage).toNat == field16 hoistImage 254 := by rw [hoistImage_check]; decide
  unfold imageAccepted
  rw [h]
  decide

/-- The image is accepted and loaded. -/
theorem hoistImage_loads : loadImage hoistImage = some (configOf .hoist hoistImage) := by
  rw [loadImage, hoistImage_accepted]
  decide

/-- The manual's clamps: V_max 600, V_full 600, V_creep 1, SKEW_WARN 500, SKEW_TRIP 501, P 1300 (section 11.4). -/
theorem test_clamping_a_hoist_image :
    let c := configOf .hoist hoistImage
    c.vMax = 600 ∧ c.vFull = 600 ∧ c.vCreep = 1 ∧ c.skewWarn = 500 ∧ c.skewTrip = 501 ∧ c.flashPeriod = 1300 := by
  decide

/-- An image of another tag. -/
def otherTag : List Byte := List.replicate 256 0

theorem otherTag_refused : loadImage otherTag = none := by
  have h : (field16 otherTag 0 == Config.formatTag) = false := by decide
  simp [loadImage, imageAccepted, h]


/-! ### States that meet the hypotheses of the statements

Each `witness_<Name>` meets the hypotheses of `Obligations.<Name>`, clause by clause, at a concrete state. -/

/-- A configuration of station 5 at a role. -/
def configFor (r : Role) : StationConfig :=
  { levelConfig with
    station := 5, role := r, haltMask := 0x3E, deskSet := [1, 8], debounce := 20, statusPeriod := 50,
    peerDeadline := 120, linkSilence := 200, linkDelay := 2, stepLimits := Vector.replicate 6 150, tAmber := 5,
    tPrewarn := 5, tClear := 10, agreeTime := 10, openThreshold := 80, threshold0 := 900, threshold1 := 600,
    blankingCode := 4, retryTime := 5, retryDuty := 64, lockWindow := 20, slew := 50, detectorMask := 0xF,
    peers := (Vector.replicate 16 {} : Vector PeerConfig 16).set 0 { station := 2, role := .barrier, flags := 0x08 } }

/-- A station of a role in RUN at station time 100000, nothing heard yet. -/
def running (r : Role) : State :=
  { stage := .running, clock := 100000, cfg := configFor r, signal := { recovering := false },
    lamps := { phase := some 100 } }

/-- The same with one peer entry in slot 1. -/
def withPeer (p : PeerEntry) (s : State) : State := s.setPeer 0 p

/-- A TRACKED entry of barrier 2 that carries every flag, its report in RUN and in that phase. -/
def barrierPeer (phase : Byte) : PeerEntry :=
  { station := 2, role := .barrier, flags := 0x7F, state := .tracked, lastSeq := some 17,
    deadline := .running 99880 120,
    report := some { body := { idleBody with role := 1, phase := phase }, receipt := 99880, captured := 0, link := .a } }

/-- The input's debounce timer is due and its candidate level is another than its debounced one. -/
def changing (i : Fin 16) (level : Bool) (s : State) : State :=
  s.setInput i { raw := level, candidate := level, level := !level, timer := .running (s.clock - 20) 20 }

/-- A step in progress. -/
def stepping (k : ForwardStep) (d : Direction) (s : State) : State :=
  { s with seq := { s.seq with step := some { step := { kind := k, dir := d }, begun := s.clock - 1900 }
                               supervision := .running (s.clock - 1900) 15000
                               journal := [{ step := k, state := .partway, start := s.clock - 1900 }] } }

/-- An OPEN demand (7, 1) adopted. -/
def opening (s : State) : State :=
  { s with demand := { s.demand with adopted := some { number := 7, issuer := 1, kind := .openBridge } } }

/-- Halted by station 4. -/
def haltedBy4 (s : State) : State :=
  { s with halt := { origins := 0x10, firstOrigin := some 4, firstReason := some (.cause .stepTime) } }

/-- Link B in a state at a count. -/
def linkBAt (state : LinkState) (count : Nat) (s : State) : State :=
  { s with linkB := { s.linkB with state := state, health := count } }

/-- A hoist in travel beside a TRACKED HOIST-flagged peer 2 whose next missed deadline loses it. -/
def travelling (d : Direction) : State :=
  withPeer { barrierPeer 0 with role := .hoist, flags := 0x20, deficit := 2 } (stepping .raise d (running .hoist))

/-- The hoist in travel meets no cause of its own, and no completion, in either direction, stopping or not. -/
theorem travelling_travelsFreely :
    ∀ d ∈ [Direction.forward, .inverse], ∀ stopping : Bool, ∀ c ∈ [LocalCause.peerLost, .peerHalt, .overtravel],
      let s := travelling d
      ({ s with seq := { s.seq with stopping := stopping } }).travelsFreely c := by
  unfold State.travelsFreely
  decide

theorem witness_EmptyQueueStepIsOneMillisecond :
    (((State.reset.setOutput 0 { command := .steady, lit := true }).lamps.outputs[0].driven = true) ∧
      State.reset.lamps.outputs[0].driven = false) ∧
    (State.reset.pending = [] ∧ State.reset.stage ≠ .inReset) ∧
      (State.reset.inReset.pending = [] ∧ State.reset.inReset.stage = .inReset) := by decide

theorem witness_CommandsLeaveQueue : exec .rstAssert State.reset = .next State.reset.inReset := rfl

theorem witness_ResetCommands : State.reset.inReset.stage = .inReset := rfl

/-- At 100 ms exactly, where the read's end and its expiry meet. -/
def readDue : State := { State.reset with clock := 100 }

theorem witness_ImageReadEnds :
    readDue.stage = .starting ∧ readDue.loader.read = .running 0 100 ∧ hoistImage.length = 256 ∧
      since readDue.clock 0 ≤ 100 ∧ 100 ≤ since readDue.clock 0 ∧ otherTag.length = 256 ∧
      loadImage hoistImage = some (configOf .hoist hoistImage) ∧ loadImage otherTag = none :=
  ⟨by decide, by decide, by decide +kernel, by decide, by decide, by decide +kernel, hoistImage_loads, otherTag_refused⟩

theorem witness_LoadedConfigurationInRange : loadImage hoistImage = some (configOf .hoist hoistImage) :=
  hoistImage_loads

/-- A station of a role whose start timer expires. -/
def starting (r : Role) : State :=
  { State.reset with clock := 20, cfg := configFor r, loader := { start := .running 0 20 } }

theorem witness_EntryIntoRun :
    ∀ r ∈ [Role.barrier, .hoist, .signal, .desk], (starting r).stage = .starting ∧
      (starting r).loader.start.due (starting r).clock = true ∧ (starting r).role = r ∧
      (starting r).demand.adopted = none ∧ (starting r).signal.recovering = true ∧
      ((starting r).cfg.peers[0].station ≠ 0 ∧ (starting r).cfg.peers[0].role = .barrier) ∧
      (starting r).bothFailed = false ∧ (starting r).halt = {} ∧ (starting r).hand = {} ∧ 1 ≤ (starting r).own ∧
      (starting r).own ≤ 30 ∧ (starting r).cfg.haltMask ≠ 0 ∧ (starting r).linkA.haltcmd = none ∧
      (starting r).linkB.haltcmd = none ∧
      (∀ i : Fin 16, (starting r).inputs[i].candidate = false ∧
        ((starting r).setInput i { candidate := true }).inputs[i].candidate = true ∧
        ((starting r).setInput i { candidate := true }).stage = .starting) := by
  decide

/-- At the entry into RUN an active ESTOP halts the station (R113), and an active HAND_KEY gives HAND (R123). -/
theorem test_entry_with_estop_and_key :
    let active (i : Fin 16) : State := (starting .barrier).setInput i { raw := true, candidate := true }
    (after (.startTimerExpiry none 0) (active 0)).halt.firstReason = some (.cause .estop) ∧
      (after (.startTimerExpiry none 0) (active 1)).inHand = true := by
  decide +kernel

theorem witness_InputsAreDebounced :
    let s := running .signal
    let first := changing 0 true s
    let last := changing 15 false s
    let detector := changing 11 true s
    let steady := s.setInput 3 { timer := .running (s.clock - 20) 20 }
    (s.inputs[0].raw ≠ true ∧ s.configured = true ∧ s.stage = .running) ∧
      (State.reset.inputs[0].raw ≠ true ∧ State.reset.configured = false) ∧
      (first.isRunning = true ∧ first.inputs[0].timer.due first.clock = true ∧
        first.inputs[0].level ≠ first.inputs[0].candidate) ∧
      (last.inputs[15].timer.due last.clock = true ∧ last.inputs[15].level ≠ last.inputs[15].candidate) ∧
      (detector.inputs[11].timer.due detector.clock = true ∧
        detector.inputs[11].level ≠ detector.inputs[11].candidate ∧ detector.detectorEnabled 3 = true ∧
        detector.inputs[11].candidate = true) ∧
      (steady.isRunning = true ∧ steady.inputs[3].timer.due steady.clock = true ∧
        steady.inputs[3].level = steady.inputs[3].candidate) := by
  decide

/-- A hoist in RAISE as TOP_LIMIT becomes active. -/
theorem witness_InputsAreDebounced_overtravel :
    let s := changing 7 true (travelling .forward)
    s.isRunning = true ∧ s.inputs[7].timer.due s.clock = true ∧ s.inputs[7].candidate = true ∧
      s.inputs[7].level ≠ s.inputs[7].candidate ∧ s.doing .raise .forward = true ∧ s.travelsFreely .overtravel ∧
      s.cfg.haltMask ≠ 0 ∧ s.noHaltWaiting ∧ s.bothFailed = false := by
  refine ⟨by decide, by decide, by decide, by decide, by decide, ?_, by decide, ⟨rfl, rfl⟩, by decide⟩
  unfold State.travelsFreely
  decide

/-- TOP_LIMIT becoming active halts the RAISE for OVERTRAVEL (R82). -/
theorem test_top_limit_halts_a_raise :
    let t := after (.debounceExpiry 7 none) (changing 7 true (travelling .forward))
    t.halt.firstReason = some (.cause .overtravel) ∧ t.seq.interrupted = some { kind := .raise, dir := .forward } ∧
      t.driveEnable = false := by
  decide +kernel


theorem witness_EstopHaltsStation :
    let s := changing 0 true (stepping .lower .forward (running .barrier))
    let h := changing 0 true (haltedBy4 (running .barrier))
    let t := changing 0 false (haltedBy4 (running .barrier))
    (s.isRunning = true ∧ s.inputs[0].timer.due s.clock = true ∧ 1 ≤ s.own ∧ s.own ≤ 30 ∧
      s.inputs[0].candidate = true ∧ s.inputs[0].level = false ∧ s.halted = false ∧ s.halt.has .estop = false ∧
      s.inRecovery = false ∧ s.seq.step.isSome = true ∧ s.hand.state = .off ∧ s.cfg.haltMask ≠ 0 ∧
      s.linkA.haltcmd = none ∧ s.linkB.haltcmd = none ∧ s.bothFailed = false) ∧
      (h.isRunning = true ∧ h.inputs[0].timer.due h.clock = true ∧ h.inputs[0].candidate = true ∧
        h.inputs[0].level = false ∧ h.halted = true ∧ h.halt.has .estop = false ∧ h.seq.step = none ∧
        h.cfg.haltMask ≠ 0 ∧ h.linkA.haltcmd = none ∧ h.linkB.haltcmd = none ∧ h.bothFailed = false) ∧
      (t.isRunning = true ∧ t.inputs[0].timer.due t.clock = true ∧ t.inputs[0].candidate = false ∧
        t.inputs[0].level = true ∧ t.halted = true ∧ t.seq.step = none) := by
  decide

/-- A desk at which OPEN is pressed, its adopted demand a CLOSE of that number. -/
def pressing (number : Nat) : State :=
  changing 2 true
    { running .desk with demand := { adopted := some { number := number, issuer := 8, kind := .closeBridge } } }

/-- The last number that can be issued is 65535: a press issues it after 65534 and is refused after 65535. -/
theorem witness_DeskIssuesDemand :
    let again := changing 2 true (opening (running .desk))
    (∀ n ∈ [65534, 65535], (pressing n).isRunning = true ∧ (pressing n).role = .desk ∧
      (pressing n).inputs[2].timer.due (pressing n).clock = true ∧ (pressing n).inputs[2].candidate = true ∧
      (pressing n).inputs[2].level = false ∧ (pressing n).demand.adopted.map (·.kind) ≠ some .openBridge) ∧
      (pressing 65534).nextNumber = 65535 ∧ (pressing 65535).nextNumber = 65536 ∧
      (again.inputs[2].timer.due again.clock = true ∧ again.demand.adopted.map (·.kind) = some .openBridge) := by
  decide

theorem witness_DeskHaltAndResume :
    let h := changing 4 true (running .desk)
    let h2 := { h with halt := { h.halt with latched := causeAdd 0 .operator } }
    let r := changing 5 true (running .desk)
    let r2 := { r with halt := { r.halt with live := causeAdd 0 .estop } }
    (h.isRunning = true ∧ h.role = .desk ∧ 1 ≤ h.own ∧ h.own ≤ 30 ∧ h.inputs[4].timer.due h.clock = true ∧
      h.inputs[4].candidate = true ∧ h.inputs[4].level = false ∧ h.halt.has .operator = false ∧ h.halted = false ∧
      h.cfg.haltMask ≠ 0 ∧ h.linkA.haltcmd = none ∧ h.linkB.haltcmd = none ∧ h.bothFailed = false) ∧
      h2.halt.has .operator = true ∧
      (r.inputs[5].timer.due r.clock = true ∧ r.inputs[5].candidate = true ∧ r.inputs[5].level = false ∧
        r.halt.live = 0) ∧
      r2.halt.live ≠ 0 := by
  decide

theorem witness_HandKey :
    let s := changing 1 true (running .hoist)
    let p := changing 1 true (stepping .lower .forward (running .barrier))
    let q := changing 1 false { running .barrier with hand := { state := .hand, move := some .down } }
    let raised := changing 1 false { running .hoist with hand := { state := .hand } }
    let seated := raised.setInput 4 { level := true }
    (s.isRunning = true ∧ s.role = .hoist ∧ s.inputs[1].timer.due s.clock = true ∧ s.inputs[1].candidate = true ∧
      s.inputs[1].level = false ∧ s.hand.state = .off ∧ s.seq.step = none) ∧
      (p.role = .barrier ∧ p.inputs[1].timer.due p.clock = true ∧ p.hand.state = .off ∧
        p.stepNow = some { kind := .lower, dir := .forward } ∧ p.halted = false ∧ p.travelCauses = [] ∧
        p.completionCondition { kind := .lower, dir := .forward } = false ∧ p.seatedEndsStop = false) ∧
      (q.inputs[1].timer.due q.clock = true ∧ q.inputs[1].candidate = false ∧ q.inputs[1].level = true ∧
        q.hand.state = .hand ∧ q.role = .barrier ∧ q.demand.adopted = none) ∧
      (∀ h ∈ [raised, seated], h.isRunning = true ∧ h.role = .hoist ∧ h.inputs[1].timer.due h.clock = true ∧
        h.inputs[1].candidate = false ∧ h.inputs[1].level = true ∧ h.hand.state = .hand ∧ h.demand.adopted = none) ∧
      raised.seatedInput = false ∧ seated.seatedInput = true ∧
      raised.cfg.hTop = (35990 : Word16).toNat + raised.cfg.stopBand := by
  decide

/-- A station in HAND with that move in progress. -/
def inHandWith (r : Role) (m : Option HandMove) : State := { running r with hand := { state := .hand, move := m } }

/-- The same with a HOIST-flagged entry whose next missed deadline loses it. -/
def inHandWithPeer (m : Option HandMove) : State :=
  withPeer { barrierPeer 0 with role := .hoist, flags := 0x20, deficit := 2 } (inHandWith .hoist m)

/-- Each button at each role, each refusal of a move, and each end of one. -/
theorem witness_HandMovesFollowButtons :
    ∀ r ∈ [Role.barrier, .hoist], ∀ m ∈ [HandMove.up, .down],
      let own : Fin 16 := if m = .up then 2 else 3
      let other : Fin 16 := if m = .up then 3 else 2
      let limit : Fin 16 := if r = .barrier then (if m = .up then 4 else 5) else if m = .up then 7 else 4
      let becomes (s : State) (i : Fin 16) (active : Bool) : Prop :=
        s.inputs[i].timer.due s.clock = true ∧ s.inputs[i].candidate = active ∧ s.inputs[i].level = !active
      let fits (s : State) : Prop := s.isRunning = true ∧ s.inHand = true ∧ s.seq.step = none ∧ s.role = r
      let b := changing own true (inHandWith r none)
      let e := inHandWith r (some m)
      (fits b ∧ becomes b own true ∧ b.gi other = false ∧ b.hand.move = none ∧ b.halted = false ∧
        b.gi limit = false ∧ b.lockedInput = false ∧ b.hoistPeersTracked = true) ∧
      ((haltedBy4 b).halted = true ∧ (b.setInput limit { level := true }).gi limit = true ∧
        (b.setInput 6 { level := true }).lockedInput = true ∧ (b.setInput 4 { level := true }).seatedInput = true ∧
        b.locksOut = false ∧ (withPeer { barrierPeer 0 with state := .lost } b).hoistPeersTracked = false) ∧
      (fits e ∧ e.hand.move = some m ∧ becomes (changing own false e) own false ∧
        becomes (changing other true e) other true ∧ becomes (changing limit true e) limit true) ∧
      (let l := inHandWithPeer (some m);
        l.isRunning = true ∧ l.inHand = true ∧ l.seq.step = none ∧ l.role = .hoist ∧ l.hand.move = some m ∧
          l.peers[0].state = .tracked ∧ l.peers[0].flags.getLsbD 5 = true ∧ l.peers[0].deadline.due l.clock = true ∧
          l.cfg.lostThreshold ≤ min 7 (l.peers[0].deficit + 1)) := by
  decide

theorem witness_ReceptionsAndAttemptsBegin_reception :
    (running .desk).mayReceive .b = true ∧ (running .desk).lamps.phase = some 100 := by decide

/-- A whole QUERY whose sixth byte has been damaged. -/
def damagedQuery : List Byte := [3, 31, 5, 0, 1, 13, 0, 0]

/-- The count 10: two more make it 12, at which the link enters FAILED. -/
theorem witness_TroubleRaisesHealthCount :
    let s := linkBAt .degraded 10 (running .barrier)
    let sending : State :=
      s.setLink .b { s.linkB with
        attempt := some { telegram := { sender := 5, seq := 0, body := .query 3 }, slot := .record, refilled := false,
                          phase := 0 } }
    let silent : State := s.setLink .b { s.linkB with silence := .running (s.clock - 200) 200 }
    let last : State := { s with linkA := { s.linkA with state := .failed, health := 12 } }
    (s.mayReceive .b = true ∧ judgeReception damagedQuery = .badCheck ∧ (s.link .b).failed = false) ∧
      (sending.isRunning = true ∧ (sending.link .b).attempt.isSome = true) ∧
      (silent.isRunning = true ∧ (silent.link .b).silence.due silent.clock = true) ∧
      (last.haltFits ∧ last.bothFailed = false ∧ (last.linkB.judge 12).failed = true) := by
  refine ⟨by decide +kernel, by decide, by decide, ?_, by decide, by decide⟩
  unfold State.haltFits
  decide

/-- A QUERY with the sender 0: whole, its check right, and malformed. -/
def senderZero : List Byte := frameTelegram { sender := 0, seq := 0, body := .query 12 }

theorem witness_DiscardedReceptionsAreCounted :
    (running .barrier).mayReceive .a = true ∧ judgeReception senderZero = .malformed ∧
      ((linkBAt .failed 14 (running .barrier)).link .b).failed = true ∧ validReception senderZero = true ∧
      (linkBAt .failed 14 (running .barrier)).mayReceive .b = true := by
  decide +kernel

/-- A QUERY that station 5 would have sent. -/
def ownQuery : Telegram := { sender := 5, seq := 9, body := .query 3 }

theorem witness_OwnNumberLatchesDupStation :
    let s := running .barrier
    s.mayReceive .a = true ∧ (s.link .a).failed = false ∧ s.linksFit ∧
      judgeReception (frameTelegram ownQuery) = .valid ownQuery ∧ ownQuery.sender.toNat = s.own ∧
      s.halt.has .dupStation = false ∧ s.halted = false ∧ s.cfg.haltMask ≠ 0 ∧ s.noHaltWaiting ∧ s.calm := by
  refine ⟨by decide, by decide, ?_, by decide +kernel, by decide, by decide, by decide, by decide, ?_, .inl (by decide)⟩
  · unfold State.linksFit LinkController.fits
    decide
  · exact ⟨rfl, rfl⟩

/-- Every tracking state that a STATUS is judged in; the roles fit under code 1 and not under code 2. -/
theorem witness_StatusIsRecordedAndTracked :
    ∀ state ∈ [Tracking.unknown, .acquiring, .tracked, .lost, .mismatch],
      let s := withPeer { barrierPeer 0 with state := state } (running .signal)
      s.mayReceive .a = true ∧ (s.link .a).failed = false ∧ (1 ≤ (2 : Byte).toNat ∧ (2 : Byte).toNat ≤ 31) ∧
        (2 : Byte).toNat ≠ s.own ∧ s.entryOf (2 : Byte).toNat = some 0 ∧ s.peers[0].accepts 18 = true ∧
        roleOf 1 = some s.peers[0].role ∧ roleOf 2 ≠ some s.peers[0].role ∧
        (s.link .a).captured = none ∧
        ((s.setLink .a { s.link .a with captured := some 480 }).mayReceive .a = true) := by
  decide

/-- The echo (7, 8) of a CLOSE exceeds the adopted (7, 1) by its issuer alone; (7, 1) itself does not. -/
theorem witness_StatusIsRecordedAndTracked_echo :
    let s := opening (withPeer (barrierPeer 0) (running .signal))
    (s.mayReceive .a = true ∧ s.entryOf (2 : Byte).toNat = some 0 ∧ s.peers[0].accepts 18 = true ∧
      s.peers[0].state = .tracked ∧ roleOf 1 = some s.peers[0].role) ∧
      (demandKindOf 2 = some .closeBridge ∧ (8 : Byte).toNat ∈ s.cfg.deskSet ∧ (7 : Word16) ≠ 0 ∧
        s.demand.adopted.map (fun a => (a.number, a.issuer)) = some (7, 1) ∧ 1 < (8 : Byte).toNat) ∧
      (demandKindOf 3 = none ∧ (9 : Byte).toNat ∉ s.cfg.deskSet) := by
  decide

/-- A hoist in travel, and the TRACKED HOIST-flagged peer 2 that it hears; a STATUS of role 2 fits, of role 1 does not. -/
theorem witness_StatusIsRecordedAndTracked_travel :
    let s := travelling .forward
    (s.mayReceive .a = true ∧ (s.link .a).failed = false ∧ s.entryOf (2 : Byte).toNat = some 0 ∧
      s.peers[0].accepts 18 = true ∧ s.peers[0].state = .tracked ∧ s.peers[0].flags.getLsbD 5 = true ∧
      roleOf 2 = some s.peers[0].role ∧ roleOf 1 ≠ some s.peers[0].role) ∧
      s.linksFit ∧ s.travelsFreely .peerHalt ∧ s.travelsFreely .peerLost := by
  refine ⟨by decide, ?_, travelling_travelsFreely .forward (by decide) false .peerHalt (by decide),
    travelling_travelsFreely .forward (by decide) false .peerLost (by decide)⟩
  unfold State.linksFit LinkController.fits
  decide

/-- A peer that reports HAND halts the travel for PEER_HALT, and one whose role does not fit for PEER_LOST (R87, R88). -/
theorem test_a_status_halts_travel :
    (after (.statusReceived .a 2 18 { idleBody with role := 2, hand := true }) (travelling .forward)).halt.firstReason =
        some (.cause .peerHalt) ∧
      (after (.statusReceived .a 2 18 { idleBody with role := 1 }) (travelling .inverse)).halt.firstReason =
        some (.cause .peerLost) := by
  decide +kernel


theorem witness_OldCopiesAreDiscarded :
    let s := withPeer (barrierPeer 0) (running .signal)
    let tel : Telegram := { sender := 2, seq := 145, body := .query 5 }
    (holding 10).lastSeq = some 10 ∧ (holding 10).state = .tracked ∧
      (s.mayReceive .b = true ∧ (s.link .b).failed = false ∧ tel.sender.toNat ≠ s.own ∧
        s.entryOf tel.sender.toNat = some 0 ∧ s.peers[0].accepts 17 = false ∧ s.peers[0].accepts tel.seq = false ∧
        s.calm ∧ s.linksFit) := by
  refine ⟨by decide, by decide, by decide, by decide, by decide, by decide, by decide, by decide, .inl (by decide), ?_⟩
  unfold State.linksFit LinkController.fits
  decide

/-- Each way of being calm, and a hoist without hoist peers that stands at TOP_LIMIT, which is not. -/
theorem test_calm :
    (running .barrier).calm ∧ (running .hoist).calm ∧
      (withPeer { barrierPeer 0 with role := .hoist, flags := 0x20 } (running .hoist)).calm ∧
      ¬((running .hoist).setInput 7 { level := true }).calm ∧ ¬raising.calm := by
  unfold State.calm
  decide

theorem witness_DemandIsAdoptedWhenGreater :
    let s := opening (withPeer { barrierPeer 0 with station := 8, role := .desk } (running .barrier))
    s.mayReceive .a = true ∧ (s.link .a).failed = false ∧ (8 : Byte).toNat ≠ s.own ∧
      s.entryOf (8 : Byte).toNat = some 0 ∧ s.peers[0].accepts 18 = true ∧ s.entryOf (1 : Byte).toNat = none ∧
      demandKindOf 2 = some .closeBridge ∧ demandKindOf 3 = none ∧ (8 : Byte).toNat ∈ s.cfg.deskSet ∧
      (7 : Byte).toNat ∉ s.cfg.deskSet ∧ (7 : Word16) ≠ 0 ∧
      (∀ a, s.demand.adopted = some a → a.number = (7 : Word16).toNat ∧ a.issuer < (8 : Byte).toNat) := by
  refine ⟨by decide, by decide, by decide, by decide, by decide, by decide, by decide, by decide, by decide, by decide,
    by decide, ?_⟩
  intro a h
  cases h
  decide

/-- A demand of a kind adopted. -/
def holdingDemand (k : DemandKind) (s : State) : State :=
  { s with demand := { s.demand with adopted := some { number := 7, issuer := 1, kind := k } } }

/-- A station in travel under a demand of a kind, its TRACKED peer 2 heard. -/
def reversing (r : Role) (k : DemandKind) : State :=
  let s := holdingDemand k (withPeer { barrierPeer 0 with flags := 0x08 }
    (stepping (if r = .barrier then .lower else .raise) (if k = .openBridge then .forward else .inverse) (running r)))
  let begun : List JournalEntry := if r = .barrier then [] else [{ step := .withdraw, state := .done, start := 90000 }]
  { s with seq := { s.seq with journal := s.seq.journal ++ begun } }

theorem reversing_linksFit :
    ∀ r ∈ [Role.barrier, .hoist], ∀ k ∈ [DemandKind.openBridge, .closeBridge], (reversing r k).linksFit := by
  unfold State.linksFit LinkController.fits
  decide

theorem reversing_journalKept :
    ∀ r ∈ [Role.barrier, .hoist], ∀ k ∈ [DemandKind.openBridge, .closeBridge], (reversing r k).journalKept := by
  intro r hr k hk
  simp only [List.mem_cons, List.not_mem_nil, or_false] at hr hk
  rcases hr with rfl | rfl <;> rcases hk with rfl | rfl <;>
    refine ⟨by unfold journalFits; decide, fun p h => ?_, by decide, by decide⟩ <;>
    cases h <;> exact ⟨_, _, rfl, rfl, rfl⟩

/-- Both kinds, over a barrier's and a hoist's travel: desk 8 without an entry sends the demand numbered 8, or the
TRACKED peer 2 echoes it. -/
theorem witness_ReversalStopsTravel :
    ∀ r ∈ [Role.barrier, .hoist], ∀ k ∈ [DemandKind.openBridge, .closeBridge],
      let s := reversing r k
      let dir : Direction := if k = .openBridge then .forward else .inverse
      (s.mayReceive .b = true ∧ (s.link .b).failed = false ∧ (8 : Byte).toNat ≠ s.own ∧ (2 : Byte).toNat ≠ s.own ∧
        8 ∈ s.cfg.deskSet ∧ s.demand.adopted = some { number := 7, issuer := 1, kind := k } ∧ s.halted = false ∧
        s.entryOf (8 : Byte).toNat = none ∧ s.entryOf (2 : Byte).toNat = some 0 ∧ s.peers[0].state = .tracked ∧
        s.peers[0].accepts 18 = true ∧ roleOf 1 = some s.peers[0].role ∧ s.role = r ∧ s.hand.move = none ∧
        s.travelCauses = [] ∧ s.seatedInput = false) ∧
      (r = .barrier → s.doing .lower dir = true) ∧ (r = .hoist → s.doing .raise dir = true) := by
  decide

theorem witness_HaltAddsItsSender :
    let s := stepping .lower .forward (running .barrier)
    let t := haltedBy4 (running .barrier)
    (s.mayReceive .a = true ∧ (s.link .a).failed = false ∧ s.linksFit ∧ s.motionFits ∧ (31 : Byte).toNat ≠ s.own ∧
      s.entryOf (31 : Byte).toNat = none ∧ maskHas 0x3E s.own = true ∧ s.halted = false ∧ maskHas 0x1E s.own = false ∧
      s.calm) ∧
      (t.linksFit ∧ t.motionFits ∧ t.halted = true) := by
  have hs : (stepping .lower .forward (running .barrier)).linksFit ∧
      (stepping .lower .forward (running .barrier)).motionFits := by
    unfold State.linksFit LinkController.fits State.motionFits
    decide
  have ht : (haltedBy4 (running .barrier)).linksFit ∧ (haltedBy4 (running .barrier)).motionFits := by
    unfold State.linksFit LinkController.fits State.motionFits
    decide
  exact ⟨⟨by decide, by decide, hs.1, hs.2, by decide, by decide, by decide, by decide, by decide, .inl (by decide)⟩,
    ht.1, ht.2, by decide⟩

theorem witness_ResumeClearsHaltRecord :
    let s := haltedBy4 (running .barrier)
    let t := { s with halt := { s.halt with live := causeAdd 0 .estop } }
    s.mayReceive .a = true ∧ (s.link .a).failed = false ∧ s.linksFit ∧ s.calm ∧ (8 : Byte).toNat ≠ s.own ∧
      s.entryOf (8 : Byte).toNat = none ∧ (8 : Byte).toNat ∈ s.cfg.deskSet ∧ maskHas 0x3E s.own = true ∧
      s.halt.live = 0 ∧ s.halted = true ∧ s.seq.step = none ∧ t.halt.live ≠ 0 ∧ maskHas 0x1E s.own = false := by
  refine ⟨by decide, by decide, ?_, .inl (by decide), by decide, by decide, by decide, by decide, by decide, by decide,
    by decide, by decide, by decide⟩
  unfold State.linksFit LinkController.fits
  decide

theorem witness_QueryFormsRecord :
    let s := running .signal
    s.mayReceive .a = true ∧ (s.link .a).failed = false ∧ s.linksFit ∧ (31 : Byte).toNat ≤ 31 ∧
      (31 : Byte).toNat ≠ s.own ∧ s.entryOf (31 : Byte).toNat = none ∧ (5 : Byte).toNat = s.own ∧
      (6 : Byte).toNat ≠ s.own ∧ (30 : Byte) ≠ 31 ∧ s.entryOf (30 : Byte).toNat = none := by
  refine ⟨by decide, by decide, ?_, by decide, by decide, by decide, by decide, by decide, by decide, by decide⟩
  unfold State.linksFit LinkController.fits
  decide

/-- A STATUS that waits, whichever slot a test puts it in. -/
def waiting : Telegram := { sender := 5, seq := 9, body := .status idleBody }

/-- Every slot as the highest that is not empty. -/
theorem witness_ReceptionsAndAttemptsBegin :
    ∀ k ∈ [SlotKind.haltcmd, .demand, .status, .record],
      let s := (running .desk).setLink .a ({ record := some waiting : LinkController }.setSlot k (some waiting))
      s.isRunning = true ∧ (s.link .a).failed = false ∧ (s.link .a).attempt = none ∧ (s.link .a).captured = none ∧
        (s.link .a).slot k = some waiting ∧ (k = .haltcmd ∨ (s.link .a).haltcmd = none) ∧
        (k = .haltcmd ∨ k = .demand ∨ (s.link .a).demand = none) ∧ (k ≠ .record ∨ (s.link .a).status = none) := by
  decide

/-- An attempt with the telegram of a slot. -/
def attempting (k : SlotKind) (refilled : Bool) : State :=
  (running .barrier).setLink .a
    { ({} : LinkController).setSlot k (some waiting) with
      attempt := some { telegram := waiting, slot := k, refilled := refilled, phase := 40 } }

theorem witness_AttemptEnds :
    (attempting .demand true).isRunning = true ∧
      ((attempting .demand true).link .a).attempt =
        some { telegram := waiting, slot := .demand, refilled := true, phase := 40 } ∧
      (attempting .demand true).linksFit ∧ (attempting .demand true).calm ∧
      ((attempting .status false).link .a).attempt =
        some { telegram := waiting, slot := .status, refilled := false, phase := 40 } ∧
      (after (.attemptSent .a) (attempting .status false)).former.sequence =
        (attempting .status false).former.sequence := by
  refine ⟨by decide, by decide, ?_, .inl (by decide), by decide, by decide⟩
  unfold State.linksFit LinkController.fits
  decide

/-- A former's timers due, with a change pending or not. -/
def formerDue (pending : Bool) (s : State) : State :=
  { s with former := { s.former with period := .running (s.clock - 50) 50, gap := .running (s.clock - 10) 10,
                                     changePending := pending } }

theorem witness_StatusIsFormedAtExpiries :
    let s := formerDue true (running .hoist)
    let t := formerDue false (linkBAt .failed 15
      ((running .hoist).setLink .a { state := .failed, health := 12 }))
    (s.isRunning = true ∧ s.former.period.due s.clock = true ∧ s.former.gap.due s.clock = true ∧ s.bothFailed = false ∧
      s.former.changePending = true) ∧
      (t.former.period.due t.clock = true ∧ t.former.gap.due t.clock = true ∧ t.bothFailed = true ∧
        t.former.changePending = false) := by
  decide

/-- The deficits 1 and 2 under a LOST_THRESHOLD of 3: the next miss keeps the entry TRACKED, or makes it LOST. -/
theorem witness_DeadlineExpiryCounts :
    ∀ d ∈ [1, 2],
      let s := withPeer { barrierPeer 0 with deficit := d } (running .signal)
      let t := withPeer { barrierPeer 0 with state := .acquiring } (running .signal)
      s.isRunning = true ∧ s.peers[0].deadline.due s.clock = true ∧ s.peers[0].state = .tracked ∧
        (d = 1 → min 7 (s.peers[0].deficit + 1) < s.cfg.lostThreshold) ∧
        (d = 2 → s.cfg.lostThreshold ≤ min 7 (s.peers[0].deficit + 1)) ∧
        t.peers[0].deadline.due t.clock = true ∧ t.peers[0].state = .acquiring := by
  decide

/-- A hoist in travel whose HOIST-flagged peer misses its last deadline. -/
theorem witness_DeadlineExpiryCounts_travel :
    let s := travelling .inverse
    (s.isRunning = true ∧ s.peers[0].deadline.due s.clock = true ∧ s.peers[0].state = .tracked ∧
      s.cfg.lostThreshold ≤ min 7 (s.peers[0].deficit + 1) ∧ s.peers[0].flags.getLsbD 5 = true) ∧
      s.travelsFreely .peerLost :=
  ⟨by decide, travelling_travelsFreely .inverse (by decide) false .peerLost (by decide)⟩


/-- A signal peer that proves ROAD_RED and reports its zone CLEAR. -/
def provingPeer : PeerEntry :=
  { station := 2, role := .signal, flags := 0x12, state := .tracked, lastSeq := some 17,
    deadline := .running 99990 120,
    report := some { body := { idleBody with proven := 0x0E, zone := some 0 }, receipt := 99990, captured := 0, link := .a } }

theorem witness_SupervisingTimersExpire :
    let s : State := opening { running .desk with demand := { stallTimer := .running 90000 10000 } }
    let p := { withPeer provingPeer (running .barrier) with barrier := { hold := .running, timer := .running 95000 5000 } }
    let c := { withPeer provingPeer (running .hoist) with
      clearance := { evidence := .timing, timer := .running 90000 10000 } }
    (s.isRunning = true ∧ s.demand.stallTimer.due s.clock = true ∧ s.demand.adopted.isSome = true ∧
      s.permissive .agreed = false) ∧
      (p.isRunning = true ∧ p.barrier.timer.due p.clock = true ∧ p.role = .barrier ∧ p.permissive .warn = true) ∧
      (c.isRunning = true ∧ c.clearance.timer.due c.clock = true ∧ c.holdsEvidence = true ∧ c.evidenceBroken = false) := by
  decide

/-- A station between steps that waits to open, the journal empty, as each timer expires. -/
theorem witness_SupervisingTimersExpire_waits :
    let clearing (r : Role) : State :=
      { opening (withPeer provingPeer (running r)) with
        cfg := { configFor r with barrierKind := .exit }
        clearance := { evidence := .timing, timer := .running 90000 10000 }
        barrier := { hold := .running, timer := .running 95000 5000 } }
    ∀ x ∈ [(Role.barrier, ForwardStep.lower), (.hoist, .withdraw)],
      let s := clearing x.1
      s.isRunning = true ∧ s.role = x.1 ∧ s.hand.state = .off ∧ s.halted = false ∧ s.seq.step = none ∧
        s.seq.stopping = false ∧ s.seq.journal = [] ∧ s.adoptedKind = some .openBridge ∧
        s.completionCondition { kind := x.2, dir := .forward } = false ∧ s.permissive .warn = true ∧
        s.barrier.timer.due s.clock = true ∧ s.clearance.timer.due s.clock = true ∧ s.holdsEvidence = true ∧
        s.evidenceBroken = false := by
  decide

/-- WARN false and true over each hold, and the evidence broken by no entry, by an occupied own detector and by a
faulted peer zone, and not broken, at an EXIT barrier, a hoist and an ENTRY barrier. -/
theorem witness_WarnAndEvidenceAreFollowed :
    let exit := { running .barrier with cfg := { configFor .barrier with barrierKind := .exit } }
    let clear := withPeer provingPeer exit
    let zoned (z : Byte) : PeerEntry :=
      { provingPeer with report := provingPeer.report.map fun r => { r with body := { r.body with zone := some z } } }
    (running .barrier).isRunning = true ∧ (running .barrier).permissive .warn = false ∧
      clear.permissive .warn = true ∧ clear.barrier.hold = .absent ∧
      ({ clear with barrier := { hold := .running } }).permissive .warn = true ∧
      (∀ s ∈ [clear, withPeer provingPeer (running .hoist)], s.holdsEvidence = true ∧ s.evidenceBroken = false ∧
        s.clearance.evidence = .broken) ∧
      exit.evidenceBroken = true ∧ (clear.setInput 8 { level := true }).evidenceBroken = true ∧
      (withPeer (zoned 1) exit).evidenceBroken = true ∧ (withPeer (zoned 2) exit).evidenceBroken = true ∧
      (withPeer (zoned 2) exit).hasFault .detector = true ∧ clear.hasFault .detector = false ∧
      (clear.setInput 12 { level := true }).hasFault .detector = true ∧ (running .barrier).holdsEvidence = false := by
  decide

theorem witness_SupervisionExpiryHalts :
    let s0 := stepping .lower .forward (running .barrier)
    let s := { s0 with seq := { s0.seq with supervision := .running 85000 15000 } }
    s.isRunning = true ∧ s.seq.supervision.due s.clock = true ∧
      s.seq.step = some { step := { kind := .lower, dir := .forward }, begun := 98100 } ∧ s.halted = false ∧
      s.halt.has .stepTime = false ∧ 1 ≤ s.own ∧ s.own ≤ 30 ∧ s.inRecovery = false ∧ s.cfg.haltMask ≠ 0 ∧
      s.linkA.haltcmd = none ∧ s.linkB.haltcmd = none ∧ s.bothFailed = false := by
  decide

/-- A station that holds a demand of a kind, between steps, the last step of its list and its state as given. -/
def between (r : Role) (kind : DemandKind) (last : List (ForwardStep × EntryState)) : State :=
  let s := holdingDemand kind (running r)
  { s with seq := { s.seq with journal := last.map fun e => { step := e.1, state := e.2, start := 90000 } } }

/-- Every step that may begin, forward and inverse, at a station free to begin it whose end of the step is not met. -/
theorem witness_StepsBeginAndComplete_begins :
    ∀ x ∈ ([(.barrier, .openBridge, []), (.barrier, .openBridge, [(.lower, .partway)]),
        (.barrier, .openBridge, [(.lower, .done)]), (.barrier, .openBridge, [(.lock, .partway)]),
        (.hoist, .openBridge, []), (.hoist, .openBridge, [(.withdraw, .partway)]),
        (.hoist, .openBridge, [(.withdraw, .done)]), (.hoist, .openBridge, [(.raise, .partway)]),
        (.signal, .openBridge, []), (.signal, .openBridge, [(.amber, .partway)]),
        (.signal, .openBridge, [(.amber, .done)]), (.signal, .openBridge, [(.red, .partway)]),
        (.signal, .openBridge, [(.red, .done)]), (.signal, .openBridge, [(.green, .partway)]),
        (.signal, .openBridge, [(.green, .done)]),
        (.barrier, .closeBridge, [(.lock, .done)]), (.barrier, .closeBridge, [(.lock, .partway)]),
        (.barrier, .closeBridge, [(.lower, .done)]), (.barrier, .closeBridge, [(.lower, .partway)]),
        (.hoist, .closeBridge, [(.raise, .done)]), (.hoist, .closeBridge, [(.raise, .partway)]),
        (.hoist, .closeBridge, [(.withdraw, .done)]), (.hoist, .closeBridge, [(.withdraw, .partway)]),
        (.signal, .closeBridge, [(.green, .done)]), (.signal, .closeBridge, [(.green, .partway)]),
        (.signal, .closeBridge, [(.red, .done), (.amber, .done)]), (.signal, .closeBridge, [(.amber, .done)])] :
        List (Role × DemandKind × List (ForwardStep × EntryState))),
      let s := between x.1 x.2.1 x.2.2
      s.isRunning = true ∧ s.inRecovery = false ∧ s.hand.state = .off ∧ s.halted = false ∧ s.seq.step = none ∧
        s.seq.stopping = false ∧ s.role = x.1 ∧ s.adoptedKind = some x.2.1 ∧
        s.seq.journal.map (fun e => (e.step, e.state)) = x.2.2 ∧ (∀ i ∈ [4, 5, 6, 7], s.gi i = false) ∧
        s.hoistPeersTracked = true ∧ s.hoistPeerStopped = false ∧ s.level.height + s.cfg.stopBand < s.cfg.hTop ∧
        s.roadRedProven = false ∧ s.functionProven .marineGreen = false ∧ s.functionProven .marineRed = false := by
  decide

/-- A GREEN in progress as HOISTS_TOP is lost, under either demand. -/
theorem witness_StepsBeginAndComplete_abandons :
    ∀ k ∈ [DemandKind.openBridge, .closeBridge],
      let s := holdingDemand k (stepping .green .forward (running .signal))
      s.isRunning = true ∧ s.inRecovery = false ∧ s.role = .signal ∧ s.halted = false ∧
        s.doing .green .forward = true ∧ s.permissive .hoistsTop = false ∧ s.functionProven .marineRed = false ∧
        s.seq.journal = [{ step := .green, state := .partway, start := 98100 }] := by
  decide

/-- A reversal that stops a barrier's LOWER: the demand of the other kind is adopted, the step ended. -/
theorem witness_StepsBeginAndComplete_stopped :
    let before := holdingDemand .openBridge (stepping .lower .forward (running .barrier))
    let s := between .barrier .closeBridge [(.lower, .partway)]
    s.isRunning = true ∧ s.inRecovery = false ∧ before.adoptedKind = some .openBridge ∧
      s.adoptedKind = some .closeBridge ∧ before.doing .lower .forward = true ∧ s.seq.step = none ∧
      (running .barrier).adoptedKind = none := by
  decide

/-- AGREED returns at the very echo that reverses: RAISE is not begun there, and is at the next event (R34). -/
theorem test_inverse_is_not_begun_at_the_reversal :
    let lowering := holdingDemand .openBridge (stepping .lower .forward (running .barrier))
    let s := (withPeer { barrierPeer 0 with flags := 0x01 } lowering).setPeer 1
      { hoistPeer 12 400 0 99990 with flags := 0x20 }
    let echo : StatusBody := { idleBody with role := 1, echo := some { issuer := 8, number := 8, kind := 2 } }
    let t := after (.statusReceived .a 2 18 echo) s
    t.permissive .agreed = true ∧ t.permissive .hoistsSeated = true ∧ t.seq.step = none ∧
      (after (.statusReceived .b 2 19 echo) t).doing .lower .inverse = true := by
  decide +kernel

/-- A RAISE whose other start conditions hold begins at a skew of SKEW_WARN and not 1 mm above (R79). -/
theorem test_raise_begins_up_to_the_skew_warning :
    let s := { between .hoist .openBridge [(.withdraw, .done)] with hoist := { handshake := .readyUp } }
    let at_ (k : Nat) : State := { s with level := { s.level with skew := some k, skewFull := true } }
    (State.conclude s (at_ 25)).doing .raise .forward = true ∧
      (State.conclude s (at_ 26)).doing .raise .forward = false := by
  decide

/-- At a span with a single drive the present skew is 0 before one is formed, and RAISE begins at once (R81); with a hoist
peer in READY_UP it waits for the control period expiry that forms one. -/
theorem test_single_drive_raise_begins_at_once :
    let s := { between .hoist .openBridge [(.withdraw, .done)] with hoist := { handshake := .readyUp } }
    let two := withPeer { barrierPeer 3 with role := .hoist, flags := 0x20 } s
    let formed := { two with level := { two.level with skew := some 0, skewFull := true } }
    s.level.skew = none ∧ (State.conclude s s).doing .raise .forward = true ∧
      two.permissive .hoistsReadyUp = true ∧ (State.conclude two two).doing .raise .forward = false ∧
      (State.conclude two formed).doing .raise .forward = true := by
  decide

/-- Every step in progress whose completion is stated; a hoist peer at TOP_HELD for GREEN. -/
theorem witness_StepsBeginAndComplete_completes :
    (∀ x ∈ ([(.barrier, .lower, .forward), (.barrier, .lock, .forward), (.barrier, .lock, .inverse),
        (.barrier, .lower, .inverse), (.hoist, .withdraw, .forward), (.hoist, .raise, .forward),
        (.hoist, .raise, .inverse), (.hoist, .withdraw, .inverse), (.signal, .red, .forward),
        (.signal, .green, .forward), (.signal, .green, .inverse)] : List (Role × ForwardStep × Direction)),
      let kind : DemandKind := if x.2.2 = .forward then .openBridge else .closeBridge
      let s := holdingDemand kind (stepping x.2.1 x.2.2 (running x.1))
      s.isRunning = true ∧ s.inRecovery = false ∧ s.role = x.1 ∧ s.doing x.2.1 x.2.2 = true ∧
        s.seq.stopping = false ∧ s.travelCauses = [] ∧ s.adoptedKind = some kind ∧
        s.seq.journal = [{ step := x.2.1, state := .partway, start := 98100 }]) ∧
      (withPeer { barrierPeer 6 with role := .hoist, flags := 0x20 }
        (stepping .green .forward (running .signal))).permissive .hoistsTop = true ∧
      (running .hoist).cfg.hTop = 35990 + (running .hoist).cfg.stopBand := by
  decide

/-- A non-travel step in progress under the demand of the other kind, its journal as R38 keeps it. -/
def runningOn (x : Role × ForwardStep × Direction) : State :=
  let s := holdingDemand (if x.2.2 = .forward then .closeBridge else .openBridge) (stepping x.2.1 x.2.2 (running x.1))
  { s with seq := { s.seq with journal := s.seq.journal ++
      ((x.1.steps.takeWhile (· ≠ x.2.1)).reverse.map fun k => { step := k, state := .done, start := 90000 }) } }

/-- Every non-travel step whose completion is stated under the other kind; the conditions to follow at each role. -/
theorem witness_StepsBeginAndComplete_runsOn :
    (∀ x ∈ ([(.barrier, .lock, .forward), (.barrier, .lock, .inverse), (.hoist, .withdraw, .forward),
        (.hoist, .withdraw, .inverse), (.signal, .red, .forward), (.signal, .green, .forward),
        (.signal, .green, .inverse)] : List (Role × ForwardStep × Direction)),
      let s := runningOn x
      s.isRunning = true ∧ s.inRecovery = false ∧ s.role = x.1 ∧ s.stepNow = some { kind := x.2.1, dir := x.2.2 } ∧
        s.seq.stopping = false ∧ s.hand.state = .off ∧ s.halted = false ∧
        s.adoptedKind = some (if x.2.2 = .forward then .closeBridge else .openBridge) ∧
        journalFits s.role s.seq.journal ∧
        s.seq.journal.head? = some { step := x.2.1, state := .partway, start := 98100 }) := by
  unfold journalFits
  decide

/-- The journal of each of those states is kept. -/
theorem runningOn_journalKept :
    ∀ x ∈ ([(.barrier, .lock, .forward), (.barrier, .lock, .inverse), (.hoist, .withdraw, .forward),
        (.hoist, .withdraw, .inverse), (.signal, .red, .forward), (.signal, .green, .forward),
        (.signal, .green, .inverse)] : List (Role × ForwardStep × Direction)), (runningOn x).journalKept := by
  intro x hx
  have h := witness_StepsBeginAndComplete_runsOn x hx
  simp only [List.mem_cons, List.not_mem_nil, or_false] at hx
  refine ⟨h.2.2.2.2.2.2.2.2.1, fun p hp => ?_, ?_, ?_⟩
  · rcases hx with rfl | rfl | rfl | rfl | rfl | rfl | rfl <;> cases hp <;> exact ⟨_, _, rfl, rfl, rfl⟩
  · rw [h.2.1]
    exact fun e => nomatch e
  · rw [h.1]
    exact fun e => nomatch e

/-- A RED in progress under a CLOSE whose reds are proven, its barrier peer RAISED and echoing the CLOSE. -/
def redUnderClose : State :=
  let report : Report :=
    { body := { idleBody with role := 1, echo := some { issuer := 1, number := 7, kind := 2 } }
      receipt := 99990, captured := 0, link := .a }
  let s := withPeer { barrierPeer 0 with report := some report } (runningOn (.signal, .red, .forward))
  let reds : Vector OutputConfig 12 :=
    ((Vector.replicate 12 {} : Vector OutputConfig 12).set 0 { function := .roadRedA }).set 1 { function := .roadRedB }
  let lit : Output := { command := .steady, lit := true, proof := .proven }
  ({ s with cfg := { s.cfg with outputs := reds } }.setOutput 0 lit).setOutput 1 lit

theorem witness_StepsBeginAndComplete_red :
    let s := redUnderClose
    s.isRunning = true ∧ s.inRecovery = false ∧ s.role = .signal ∧
      s.stepNow = some { kind := .red, dir := .forward } ∧ s.seq.stopping = false ∧ s.hand.state = .off ∧
      s.halted = false ∧ s.adoptedKind = some .closeBridge ∧ s.functionProven .roadRedA = true ∧
      s.functionProven .roadRedB = true ∧ s.permissive .agreed = true ∧ s.permissive .barriersUp = true ∧
      s.seq.journal = (runningOn (.signal, .red, .forward)).seq.journal := by
  decide

/-- The manual's hold at LOCK: it runs on under a CLOSE, completes at LOCKED, and waits there for AGREED (R34). -/
theorem test_lock_completes_under_close :
    let t := after (.debounceExpiry 6 none) (changing 6 true (runningOn (.barrier, .lock, .forward)))
    t.seq.step = none ∧ t.seq.journal.map (fun e => (e.step, e.state)) = [(.lock, .done), (.lower, .done)] := by
  decide +kernel

/-- A hoist about to RAISE, or to LOWER, from its handshake beside a peer in the same phase that reports halted or not. -/
def handshaking (up peerHalted : Bool) : State :=
  let s := between .hoist (if up then .openBridge else .closeBridge)
    [if up then (.withdraw, .done) else (.raise, .done)]
  let report : Report :=
    { body := { idleBody with role := 2, phase := if up then 3 else 8,
                              halt := if peerHalted then some { origin := 2, reason := 1 } else none }
      receipt := 99990, captured := 0, link := .a }
  { withPeer { barrierPeer 0 with role := .hoist, flags := 0x20, report := some report } s with
    hoist := { handshake := if up then .readyUp else .readyDown }
    level := { skew := some 0, skewFull := true } }

/-- A RAISE with TOP_LIMIT active, and a RAISE and a LOWER beside a halted peer. -/
theorem witness_StepsBeginAndComplete_haltedAt :
    let r := (handshaking true false).setInput 7 { level := true }
    let p := handshaking true true
    let l := handshaking false true
    (∀ s ∈ [r, p, l], s.isRunning = true ∧ s.role = .hoist ∧ s.hand.state = .off ∧ s.halted = false ∧
      s.seq.step = none ∧ s.seq.stopping = false ∧ s.seatedInput = false ∧
      s.level.height + s.cfg.stopBand < s.cfg.hTop ∧ s.level.skewFull = true ∧ s.level.skew = some 0 ∧
      s.halt.has .overtravel = false ∧ s.halt.has .peerHalt = false ∧ 1 ≤ s.own ∧ s.own ≤ 30) ∧
      (r.topLimit = true ∧ r.hoistPeerStopped = false ∧ r.hoist.handshake = .readyUp ∧
        r.permissive .hoistsReadyUp = true ∧ r.adoptedKind = some .openBridge) ∧
      (p.topLimit = false ∧ p.hoistPeerStopped = true ∧ p.hoist.handshake = .readyUp ∧
        p.permissive .hoistsReadyUp = true ∧ p.adoptedKind = some .openBridge) ∧
      (l.hoistPeerStopped = true ∧ l.hoist.handshake = .readyDown ∧ l.permissive .hoistsReadyDown = true ∧
        l.adoptedKind = some .closeBridge) := by
  decide


/-- A hoist in LOWER under a CLOSE with SEATED active, its LOCKS_IN input at a level. -/
def seating (locksIn : Bool) : State :=
  ((reversing .hoist .closeBridge).setInput 4 { level := true }).setInput 5 { level := locksIn }

/-- A LOWER that ends on its seat, with the locks out and in; a LOWER about to begin there, and a DRIVE_IN that begins at
an event of its own. -/
theorem witness_StepsBeginAndComplete_drive :
    let h := (handshaking false false).setInput 4 { level := true }
    let begins : State :=
      { h with seq := { h.seq with
          journal := h.seq.journal ++ [{ step := .withdraw, state := .done, start := 80000 }] } }
    let alone := (between .hoist .closeBridge [(.withdraw, .done)]).setInput 4 { level := true }
    (∀ s ∈ [seating false, seating true, begins, alone], s.isRunning = true ∧ s.inRecovery = false ∧ s.role = .hoist ∧
      s.hand.state = .off ∧ s.hand.move = none ∧ s.halted = false ∧ s.adoptedKind = some .closeBridge ∧
      s.seatedInput = true ∧ s.seq.stopping = false ∧ journalFits s.role s.seq.journal) ∧
      (∀ l : Bool, (seating l).doing .raise .inverse = true ∧ (seating l).travelCauses = [] ∧ (seating l).locksIn = l ∧
        (seating l).seq.journal.head?.map (fun e => (e.step, e.state)) = some (.raise, .partway)) ∧
      (begins.seq.step = none ∧ begins.locksIn = false ∧ begins.hoistPeersTracked = true ∧
        begins.hoistPeerStopped = false ∧ begins.hoist.handshake = .readyDown ∧
        begins.permissive .hoistsReadyDown = true ∧ begins.level.skewFull = true ∧ begins.level.skew = some 0) ∧
      (alone.seq.step = none ∧ alone.locksIn = false) := by
  unfold journalFits
  decide

/-- A DRIVE_IN in progress with the drive kept and without, and a WITHDRAW that a CLOSE overtakes, its locks out. -/
theorem witness_StepsBeginAndComplete_drive_kept :
    let drivesIn (held : Bool) : State :=
      { holdingDemand .closeBridge (stepping .withdraw .inverse (running .hoist)) with hoist := { driveHeld := held } }
    let overtaken := ((runningOn (.hoist, .withdraw, .forward)).setInput 4 { level := true }).setInput 6 { level := true }
    (∀ h : Bool, (drivesIn h).isRunning = true ∧ (drivesIn h).role = .hoist ∧ (drivesIn h).hand.move = none ∧
      (drivesIn h).halted = false ∧ (drivesIn h).doing .withdraw .inverse = true ∧ (drivesIn h).driveEnable = h ∧
      (State.conclude (drivesIn h) (drivesIn h)).doing .withdraw .inverse = true) ∧
      (overtaken.role = .hoist ∧ overtaken.hand.move = none ∧ overtaken.halted = false ∧
        overtaken.doing .withdraw .forward = true ∧
        (State.conclude overtaken overtaken).doing .withdraw .inverse = true) := by
  decide +kernel

/-- The manual's lowering at 150.920 s: SEATED completes LOWER, and DRIVE_ENABLE stays active with LOCKS_PUSH, the brake
set (R79, the span comes down). -/
theorem test_drive_is_kept_into_drive_in :
    let t := after (.debounceExpiry 4 none) (changing 4 true (reversing .hoist .closeBridge))
    t.doing .withdraw .inverse = true ∧ t.driveEnable = true ∧ t.locksPush = true ∧ t.brakeRelease = false := by
  decide +kernel

/-- A signal station whose AMBER ends. -/
def amberEnding : State :=
  let s := opening (stepping .amber .forward (running .signal))
  { s with signal := { recovering := false, amberTimer := .running 95000 5000 } }

theorem witness_AmberExpiryBeginsRed :
    let s := amberEnding
    let c := holdingDemand .closeBridge amberEnding
    (s.adoptedKind = some .openBridge ∧ s.roadRedProven = false ∧ c.adoptedKind = some .closeBridge) ∧
      ∀ x ∈ [s, c], x.isRunning = true ∧ x.role = .signal ∧ x.signal.recovering = false ∧ x.hand.state = .off ∧
        x.halted = false ∧ x.seq.stopping = false ∧ x.doing .amber .forward = true ∧
        x.signal.amberTimer.due x.clock = true ∧
        x.seq.journal = [{ step := .amber, state := .partway, start := 98100 }] := by
  decide

/-- Recovery with a barrier RAISED, and with one WAIT_LOWER. -/
theorem witness_RecoveryExpirySetsJournal :
    ∀ phase ∈ [(0 : Byte), 1],
      let s := { withPeer (barrierPeer phase) (running .signal) with
        signal := { recovering := true, recoveryTimer := .running 95000 5000 } }
      s.isRunning = true ∧ s.role = .signal ∧ s.signal.recovering = true ∧
        s.signal.recoveryTimer.due s.clock = true ∧ s.demand.adopted = none ∧ s.seq.step = none ∧
        (phase = 0 → ∀ i : Fin 16, s.peers[i].state ≠ .vacant → s.peers[i].role = .barrier →
          s.peers[i].state = .tracked ∧ s.peers[i].report = (barrierPeer 0).report) ∧
        (phase = 1 → s.peers[0].state ≠ .vacant ∧ s.peers[0].report.map (·.body.phase) = some 1) := by
  decide

/-- Every row of the three roles: each step, each journal between steps under each demand, each handshake. -/
theorem witness_PhaseNamesWhatStationDoes :
    (∀ x ∈ ([(.barrier, .lower, .forward), (.barrier, .lock, .forward), (.barrier, .lock, .inverse),
        (.barrier, .lower, .inverse), (.hoist, .withdraw, .forward), (.hoist, .raise, .forward),
        (.hoist, .raise, .inverse), (.hoist, .withdraw, .inverse), (.signal, .amber, .forward),
        (.signal, .red, .forward), (.signal, .green, .forward), (.signal, .green, .inverse)] :
        List (Role × ForwardStep × Direction)),
      let s := stepping x.2.1 x.2.2 (running x.1)
      s.isRunning = true ∧ s.role = x.1 ∧ s.doing x.2.1 x.2.2 = true ∧ s.seq.stopping = false ∧
        s.hoist.seatingStage = false ∧ s.signal.recovering = false) ∧
      (∀ r ∈ [Role.barrier, .hoist, .signal, .desk], ∀ k ∈ [DemandKind.openBridge, .closeBridge],
        ∀ j ∈ ([[], [(.lower, .partway)], [(.lock, .done)], [(.withdraw, .done)], [(.raise, .partway)],
          [(.raise, .done)], [(.amber, .done)], [(.red, .done)], [(.green, .partway)], [(.green, .done)]] :
          List (List (ForwardStep × EntryState))),
          let s := between r k j
          s.isRunning = true ∧ s.role = r ∧ s.adoptedKind = some k ∧ s.seq.step = none ∧ s.seq.stopping = false ∧
            s.seq.journal.map (fun e => (e.step, e.state)) = j ∧ s.signal.recovering = false ∧
            s.hoist.handshake = .none) ∧
      (running .barrier).adoptedKind = none := by
  decide

theorem witness_ControlPeriodAtRest :
    let s := { State.reset with clock := 20 }
    let t0 := haltedBy4 (running .hoist)
    let t := { t0 with level := { t0.level with timer := .running 99980 20 } }
    let r := { running .hoist with level := { timer := .running 99980 20 } }
    let q := withPeer (hoistPeer 12 5210 0 99980) { r with hoist := { handshake := .readyUp } }
    (s.level.timer = .running 0 20 ∧ 20 ≤ since s.clock 0 ∧ s.stage = .starting) ∧
      (t.level.timer = .running 99980 20 ∧ 20 ≤ since t.clock 99980 ∧ t.isRunning = true ∧ t.role = .hoist ∧
        t.halted = true ∧ t.motionFits) ∧
      (∀ x ∈ [r, q], x.level.timer = .running 99980 20 ∧ 20 ≤ since x.clock 99980 ∧ x.isRunning = true ∧
        x.role = .hoist ∧ x.halted = false ∧ x.hoistTravel = false ∧ x.hand.move = none) ∧
      (r.hoist.handshake = .none ∧ q.hoist.handshake = .readyUp ∧ q.permissive .hoistsReadyUp = false ∧
        q.permissive .hoistsReadyDown = false ∧ q.peerHeights = [5210] ∧
        ¬q.cfg.skewWarn < (5235 : Word16).toNat - 5210 ∧ q.cfg.skewWarn < (5236 : Word16).toNat - 5210) := by
  unfold State.motionFits
  decide

/-- A hoist alone that lowers, stops or is moved by hand, its control period due. -/
def controlling (s : State) : State :=
  { s with level := { s.level with timer := .running (s.clock - 20) 20, profile := 41 } }

/-- A raise, a lowering at the bounds of SEAT_BAND about its seat, the stopping stage of each and a move of each hand
button. -/
theorem witness_ControlPeriodComputesReference :
    let l := controlling (stepping .raise .inverse (running .hoist))
    let stopping (s : State) : State := { s with seq := { s.seq with stopping := true } }
    let r := controlling (stepping .raise .forward (running .hoist))
    (raising.level.timer = .running 980 20 ∧ 20 ≤ since raising.clock 980 ∧ raising.isRunning = true ∧
      raising.role = .hoist ∧ raising.halted = false ∧ raising.doing .raise .forward = true ∧
      raising.seq.stopping = false ∧ raising.hand.move = none ∧ raising.travelCauses = [] ∧
      (5230 : Word16).toNat + raising.cfg.stopBand < raising.cfg.hTop ∧
      skewOf 5230 raising.peerHeights ≤ raising.cfg.skewTrip) ∧
      (∀ s ∈ [l, stopping l, r, stopping r], s.level.timer = .running 99980 20 ∧ 20 ≤ since s.clock 99980 ∧
        s.isRunning = true ∧ s.role = .hoist ∧ s.halted = false ∧ s.hoistTravel = true ∧ s.hand.move = none ∧
        s.travelCauses = [] ∧ s.seatedInput = false ∧ s.level.profile - s.cfg.decel ≠ 0 ∧ s.peerHeights = []) ∧
      l.doing .raise .inverse = true ∧ r.doing .raise .forward = true ∧
      l.cfg.hSeat = (200 : Word16).toNat + l.cfg.seatBand ∧ (600 : Word16).toNat = l.cfg.hSeat + l.cfg.seatBand ∧
      (∀ m ∈ [HandMove.up, .down],
        let s := controlling (inHandWith .hoist (some m))
        s.level.timer = .running 99980 20 ∧ 20 ≤ since s.clock 99980 ∧ s.isRunning = true ∧ s.role = .hoist ∧
          s.halted = false ∧ s.hoistTravel = false ∧ s.seq.step = none ∧ s.hand.state = .hand ∧
          s.hand.move = some m ∧ s.handMoveEnds = false) := by
  decide

/-- A lone hoist, and four corners within the trip. -/
theorem witness_FullComputationStages :
    (running .hoist).peerHeights = [] ∧ skewOf (running .hoist).level.height [] ≤ (running .hoist).cfg.skewTrip ∧
      raising.peerHeights ≠ [] ∧
      (let s := { raising with level := { raising.level with height := 5230 } }
       skewOf s.level.height s.peerHeights ≤ s.cfg.skewTrip) := by
  decide

/-- A height of 5309 mm stands 91 mm from the lowest peer, above the trip of 60. -/
theorem witness_ControlPeriodHalts :
    let s := raising
    s.level.timer.due s.clock = true ∧ s.isRunning = true ∧ s.role = .hoist ∧ 1 ≤ s.own ∧ s.own ≤ 30 ∧
      s.halt.has .encoder = false ∧ s.halted = false ∧ s.hoistTravel = true ∧ s.halt.has .skewTrip = false ∧
      s.cfg.skewTrip < skewOf (5309 : Word16).toNat s.peerHeights := by
  decide

/-- A LOWER at 199 mm, 1 mm below H_SEAT less SEAT_BAND, without SEATED. -/
theorem witness_ControlPeriodHalts_overtravel :
    let s := controlling (travelling .inverse)
    (s.level.timer.due s.clock = true ∧ s.isRunning = true ∧ s.role = .hoist ∧ s.hand.move = none ∧
      s.doing .raise .inverse = true ∧ s.seatedInput = false ∧
      skewOf (199 : Word16).toNat s.peerHeights ≤ s.cfg.skewTrip ∧
      (199 : Word16).toNat + s.cfg.seatBand < s.cfg.hSeat ∧ ¬(200 : Word16).toNat + s.cfg.seatBand < s.cfg.hSeat) ∧
      s.travelsFreely .overtravel := by
  refine ⟨by decide, ?_⟩
  unfold State.travelsFreely
  decide


/-- An output driven STEADY whose check is due, its retry check or not. -/
def checking (retrying : Bool) : State :=
  (running .signal).setOutput 8
    { command := .steady, lit := true, proof := if retrying then .short else .unproven, retrying := retrying
      check := .running 99970 30 }

theorem witness_CheckJudgesCurrent :
    (∀ r : Bool, (checking r).isRunning = true ∧ (checking r).lamps.outputs[8].check.due (checking r).clock = true ∧
      (checking r).lamps.outputs[8].retrying = r) ∧
      (checking true).lamps.outputs[8].proof = .short ∧
      ¬(checking true).cfg.threshold0 < 900 ∧ (checking true).cfg.threshold0 < 901 ∧
      ¬(80 : Nat) < (checking true).cfg.openThreshold ∧ 79 < (checking true).cfg.openThreshold := by
  decide

/-- A SHORT output whose retry falls due, under each command. -/
theorem witness_RetryFallsDue :
    ∀ c ∈ [Command.off, .steady, .flashA, .flashB],
      let s := (running .signal).setOutput 11
        { command := c, proof := .short, retry := .running 95000 5000 }
      s.isRunning = true ∧ s.lamps.outputs[11].retry.due s.clock = true ∧ s.lamps.outputs[11].proof = .short ∧
        s.lamps.outputs[11].retrying = false ∧ s.lamps.outputs[11].command = c := by
  decide

theorem witness_LampTimersFollowPhase :
    let s := { running .signal with lamps := { phase := some 500, ambientTimer := .running 99500 500 } }
    (s.isRunning = true ∧ s.lamps.ambientTimer = .running 99500 500 ∧ 500 ≤ since s.clock 99500) ∧
      ((configFor .signal).pwmCode ≤ 3) ∧
      (State.reset.stage = .starting ∧ State.reset.lamps.pattern ≠ .flashB) := by
  decide

/-- Every function, at a station that is isolated and at one that is not. -/
theorem witness_OutputCommandsFollowFunctions :
    ∀ f ∈ [LampFunction.noFunction, .roadAmber, .roadRedA, .roadRedB, .armLight, .marineRed, .marineGreen, .spanLight,
        .indAgreed, .indRoadClosed, .indSpanUp, .indSpanSeated, .indHalt, .indPeer],
      let s := { running .signal with
        cfg := { configFor .signal with outputs := Vector.replicate 12 { function := f } } }
      let cut := linkBAt .failed 12 (s.setLink .a { state := .failed, health := 12 })
      s.isRunning = true ∧ s.cfg.outputs[11].function = f ∧ s.bothFailed = false ∧
        cut.isRunning = true ∧ cut.linkA.failed = true ∧ cut.linkB.failed = true := by
  decide

/-- At 800 Hz and a duty of 128 an output conducts 627 µs of each 1250 µs, and takes a new duty only at the next period
(R139). -/
theorem test_duty_within_a_pwm_period :
    let c : StationConfig := { pwmCode := 2 }
    let o : Output := { command := .steady, lit := true, duty := 0, pwmDuty := 128 }
    o.conducts c 627 = true ∧ o.conducts c 628 = false ∧ o.conducts c 1249 = false ∧ o.conducts c 1250 = false ∧
      (o.tick c).pwm = 1000 ∧ (o.tick c).pwmDuty = 128 ∧ ((o.tick c).tick c).pwm = 750 ∧
      ((o.tick c).tick c).pwmDuty = 0 := by
  decide

/-- The default pattern of the start-up, on the outputs of a station whose image is loaded, is no flash activity
(R133). -/
theorem test_not_flash_active_before_run : (starting .signal).flashActive = false := by decide

/-- The differences 20 and 21 about a LOCK_WIN of 20. -/
theorem witness_ReferenceCorrectsPhase :
    (running .barrier).lamps.phase = some 100 ∧ 0 < (running .barrier).cfg.flashPeriod ∧
      (running .barrier).cfg.flashPeriod % 2 = 0 ∧ (phaseDifference 1000 118 2 100).natAbs ≤ 20 ∧
      20 < (phaseDifference 1000 119 2 100).natAbs := by
  decide

theorem witness_PermissivesAreFormed :
    let s := withPeer (barrierPeer 2) (running .hoist)
    (opening s).demand.adopted = some { number := 7, issuer := 1, kind := .openBridge } ∧ s.demand.adopted = none ∧
    s.isRunning = true ∧ s.peers[0].state ≠ .vacant ∧ s.peers[0].flags.getLsbD 3 = true ∧
      s.peers[0].report = (barrierPeer 2).report ∧ (2 : Byte) ≠ 0 ∧ (2 : Byte) ≠ 4 ∧
      s.peers[0].flags.getLsbD 4 = true ∧ (barrierPeer 2).report.bind (·.body.zone) = none ∧
      State.reset.isRunning = false := by
  decide

theorem witness_PermissivesAreFormed_hoists : (running .hoist).isRunning = true ∧ raising.isRunning = true := by decide

theorem witness_DrivesFollowSteps : (stepping .lower .forward (running .barrier)).motionFits ∧ raising.motionFits ∧
    (haltedBy4 (running .hoist)).motionFits ∧ (running .signal).motionFits ∧
    (stepping .lower .forward (running .barrier)).isRunning = true ∧ (haltedBy4 (running .hoist)).halted = true := by
  refine ⟨?_, ?_, ?_, ?_, by decide, by decide⟩ <;> unfold State.motionFits <;> decide

theorem witness_TelegramsAreNumberedAndJoined : (running .barrier).bothFailed = false ∧ (running .barrier).cfg.haltMask ≠ 0 := by
  decide

/-- The senders 1 and 31, and the RECORD of a station just after reset. -/
theorem witness_FramedTelegramsAreReceived :
    (1 ≤ (1 : Byte).toNat ∧ (31 : Byte).toNat ≤ 31 ∧ (31 : Byte).toNat ≠ 5) ∧
      recordFits State.reset.recordBody = true := by
  decide

theorem witness_RecordHasDeclaredLength : raising.seq.journal.length ≤ raising.role.steps.length := by decide

/-- The state after reset, and a station in the middle of a lowering, meet the invariants, and a step from each answers a
next state. -/
theorem witness_StepKeepsInvariants :
    State.reset.peersFit ∧ State.reset.linksFit ∧ State.reset.haltFits ∧ State.reset.motionFits ∧
      State.reset.journalKept ∧ State.reset.redsAlternate ∧ State.reset.greenGuarded ∧ State.reset.undiagnosedFit ∧
      State.reset.phaseFits ∧ State.reset.accumulatorFits ∧ State.reset.referenceGuarded ∧
      step State.reset = .next State.reset.tick := by
  refine ⟨?_, ?_, ?_, ?_, ?_, ?_, ?_, ?_, ?_, ?_, ?_, rfl⟩
  · unfold State.peersFit PeerEntry.fits
    decide
  · unfold State.linksFit LinkController.fits
    decide
  · unfold State.haltFits
    decide
  · unfold State.motionFits
    decide
  · refine ⟨⟨by decide, by decide⟩, ?_, by decide, by decide⟩
    intro p h
    cases h
  · intro h
    cases h
  · refine ⟨by decide, ?_⟩
    intro h
    cases h
  · intro h
    cases h
  · refine ⟨by decide, by decide, ?_⟩
    intro h
    cases h
  · unfold State.accumulatorFits
    decide
  · unfold State.referenceGuarded
    decide

theorem witness_StepKeepsMotion : raising.motionFits ∧ raising.accumulatorFits ∧ raising.linksFit ∧
    raising.haltFits ∧ raising.referenceGuarded ∧
    step { raising with pending := [.controlPeriodExpiry (some 5230)] } =
      .next (after (.controlPeriodExpiry (some 5230)) raising) := by
  refine ⟨?_, ?_, ?_, ?_, ?_, rfl⟩
  · unfold State.motionFits
    decide
  · unfold State.accumulatorFits
    decide
  · unfold State.linksFit LinkController.fits
    decide
  · unfold State.haltFits
    decide
  · unfold State.referenceGuarded
    decide

theorem witness_AdoptedIdentityNeverFalls :
    (opening (running .barrier)).demand.adopted = some { number := 7, issuer := 1, kind := .openBridge } ∧
      exec (.demandReceived .a 8 1 2 7) (opening (running .barrier)) =
        .next (after (.demandReceived .a 8 1 2 7) (opening (running .barrier))) :=
  ⟨rfl, rfl⟩

theorem witness_QuietOutsideRun :
    State.reset.isRunning = false ∧ exec .gapTimerExpiry State.reset = .next State.reset ∧
      (State.reset.failLoad).stage = .configFault ∧ (State.reset.failLoad).isRunning = false := by
  refine ⟨by decide, rfl, rfl, rfl⟩

/-! ### One step of some commands, by the manual's own words -/

/-- The manual's barrier at 6.2 s: DOWN becomes active, LOWER completes and LOCK begins at the same event (R41). -/
theorem test_lower_completes_and_lock_begins :
    let t := after (.debounceExpiry 5 none) (changing 5 true (opening (stepping .lower .forward (running .barrier))))
    t.seq.journal.map (fun e => (e.step, e.state)) = [(.lock, .partway), (.lower, .done)] ∧ t.phase = .locking ∧
      t.armDown = false ∧ t.lockOn = true := by
  decide

/-- The manual's barrier halted in the re-run: LOWER is interrupted with 1.9 s elapsed, the arm drive released, the
journal kept. -/
theorem test_halt_interrupts_lower :
    let t := after (.haltReceived .a 4 1 0x3E 3) (stepping .lower .forward (running .barrier))
    t.seq.interrupted = some { kind := .lower, dir := .forward } ∧ t.seq.supervision = .suspended 1900 ∧
      t.seq.journal.map (·.state) = [.partway] ∧ t.armDown = false ∧ t.halt.firstOrigin = some 4 := by
  decide

/-- The manual's two desks: (8, 8) is adopted over (8, 1), and (8, 1) is ignored under (8, 8) (section 2.9). -/
theorem test_two_desks_pressed_together :
    let held (issuer : Nat) : State :=
      { running .hoist with demand := { adopted := some { number := 8, issuer := issuer, kind := .closeBridge } } }
    (after (.demandReceived .b 8 1 2 8) (held 1)).demand.adopted = (held 8).demand.adopted ∧
      (after (.demandReceived .b 1 1 2 8) (held 8)).demand.adopted = (held 8).demand.adopted := by
  decide +kernel

/-- The manual's link cut: the count 10 rises to 12, the link is FAILED and its slots are emptied (section 10.8). -/
theorem test_damaged_attempt_fails_the_link :
    let s := (running .barrier).setLink .b
      { state := .degraded, health := 10, status := some waiting
        attempt := some { telegram := waiting, slot := .status, refilled := false, phase := 0 } }
    let t := after (.attemptDamaged .b) s
    t.linkB.state = .failed ∧ t.linkB.health = 12 ∧ t.linkB.status = none ∧ t.halted = false := by
  decide

/-- The manual's link mended: a valid reception at the count 6 makes the FAILED link GOOD at 5, and is not judged. -/
theorem test_link_mended :
    let t := after (.statusReceived .b 2 18 { idleBody with role := 1 })
      (linkBAt .failed 6 (withPeer (barrierPeer 0) (running .hoist)))
    t.linkB.state = .good ∧ t.linkB.health = 5 ∧ t.peers[0].lastSeq = some 17 := by
  decide +kernel

/-- The manual's slot: RESUME 41 withdraws the HALT 40 that waits on link A (section 10.9). -/
theorem test_resume_withdraws_halt :
    let halt40 : Telegram := { sender := 1, seq := 40, body := .halt 0x7FFC 10 }
    let s := { (running .desk).setLink .a { haltcmd := some halt40 } with former := { sequence := 41 } }
    let t := after (.debounceExpiry 5 none) (changing 5 true { s with cfg := { s.cfg with station := 1, haltMask := 0x7FFC } })
    t.linkA.haltcmd = some { sender := 1, seq := 41, body := .resume 0x7FFC } ∧ t.linkA.haltcmd = t.linkB.haltcmd := by
  decide +kernel

/-- The manual's green: 1450 mA over a threshold of 600 is SHORT and held off, its retry 5 s later (section 9.6). -/
theorem test_short_is_held_off :
    let s := { running .hoist with
      cfg := { configFor .hoist with
        outputs := (Vector.replicate 12 {} : Vector OutputConfig 12).set 9
          { function := .indHalt, diagnostics := true, thresholdOne := true } } }
    let t := after (.checkTimerExpiry 9 1450)
      ((haltedBy4 s).setOutput 9 { command := .steady, lit := true, proof := .unproven, check := .running 99950 50 })
    t.lamps.outputs[9].proof = .short ∧ t.lamps.outputs[9].driven = false ∧
      t.lamps.outputs[9].retry = .running 100000 5000 ∧ t.hasFault .lampShort = true ∧ t.healthy = false := by
  decide +kernel

end Sys2Proof.Tests
end

/-!
PROOFS. The permissives: the codes and the bits of a STATUS body, what it is for a permissive over a flag to be formed,
what becomes of the clearance evidence at the end of an event, and the statement of the permissives (R15 to R21).
-/

namespace Sys2Proof.Machine

/-! ### Codes -/

theorem Role.phases_nodup (r : Role) : r.phases.Nodup := by cases r <;> decide

theorem Role.phases_length_lt (r : Role) : r.phases.length < 256 := by cases r <;> decide

/-- A byte names a phase at a role exactly when it is the code of one of the role's own phases (R172, R173). -/
theorem phaseOf_eq_some_iff (r : Role) (b : Byte) (ph : Phase) :
    phaseOf r b = some ph ↔ ph ∈ r.phases ∧ b = phaseCode r ph := by
  have hlen := r.phases_length_lt
  constructor
  · intro h
    obtain ⟨hb, hph⟩ := List.getElem?_eq_some_iff.mp h
    subst hph
    exact ⟨List.getElem_mem hb, by simp [phaseCode, byteOf, r.phases_nodup.idxOf_getElem]⟩
  · rintro ⟨hmem, rfl⟩
    have hidx : r.phases.idxOf ph < r.phases.length := List.idxOf_lt_length_iff.mpr hmem
    have hcode : (phaseCode r ph).toNat = r.phases.idxOf ph := by
      simpa [phaseCode, byteOf] using Nat.mod_eq_of_lt (hidx.trans hlen)
    simp [phaseOf, hcode, List.getElem?_eq_getElem hidx]

/-- The phase of a copy is among some of a role's phases exactly when the entry is expected in that role and its copy
carries the code of one of them (R21). -/
theorem phaseAmong_eq_true_iff {r : Role} {phases : List Phase} (hsub : phases ⊆ r.phases) (p : PeerEntry)
    (b : StatusBody) :
    phaseAmong r phases p b = true ↔ p.role = r ∧ b.phase ∈ phases.map (phaseCode r) := by
  have named : (∃ ph, phaseOf r b.phase = some ph ∧ ph ∈ phases) ↔ b.phase ∈ phases.map (phaseCode r) := by
    simp only [phaseOf_eq_some_iff, List.mem_map]
    exact ⟨fun ⟨ph, ⟨_, hcode⟩, hph⟩ => ⟨ph, hph, hcode.symm⟩,
      fun ⟨ph, hph, hcode⟩ => ⟨ph, ⟨hsub hph, hcode.symm⟩, hph⟩⟩
  rw [← named, phaseAmong, Bool.and_eq_true, beq_iff_eq]
  refine and_congr_right fun hrole => ?_
  subst hrole
  cases phaseOf p.role b.phase <;> simp

theorem demandKindOf_eq_some_iff (b : Byte) (k : DemandKind) : demandKindOf b = some k ↔ b = k.code := by
  constructor
  · unfold demandKindOf
    split
    case h_1 hb => rintro ⟨⟩; exact BitVec.eq_of_toNat_eq hb
    case h_2 hb => rintro ⟨⟩; exact BitVec.eq_of_toNat_eq hb
    case h_3 => exact nofun
  · rintro rfl
    cases k <;> rfl

theorem testBit_bitsToNat (bits : List Bool) (k : Nat) : (bitsToNat bits).testBit k = bits[k]?.getD false := by
  induction bits generalizing k with
  | nil => simp [bitsToNat]
  | cons b bs ih =>
    cases k with
    | zero => cases b <;> simp [bitsToNat]
    | succ k =>
      have hhalf : (b.toNat + 2 * bitsToNat bs) / 2 = bitsToNat bs := by have := b.toNat_lt; omega
      simp [bitsToNat, Nat.testBit_succ, hhalf, ih]

theorem getLsbD_byteOfBits (bits : List Bool) {k : Nat} (hk : k < 8) :
    (byteOfBits bits).getLsbD k = bits[k]?.getD false := by
  rw [byteOfBits, BitVec.getLsbD_ofNat, testBit_bitsToNat]
  simp [hk]

/-! ### A permissive over a flag -/

theorem PeerEntry.has_iff (p : PeerEntry) (f : DepFlag) :
    p.has f = true ↔ p.state ≠ .vacant ∧ p.flags.getLsbD f.bit = true := by
  simp [PeerEntry.has]

/-- What an entry contributes (R15): it is TRACKED, and its copy reports mode RUN and what is asked of it. -/
theorem PeerEntry.contributes_iff (attr : PeerEntry → StatusBody → Bool) (p : PeerEntry) :
    p.contributes attr = true ↔
      p.state = .tracked ∧ ∃ r, p.report = some r ∧ r.body.hand = false ∧ attr p r.body = true := by
  cases h : p.report <;> simp [PeerEntry.contributes, PeerEntry.copy, h]

theorem State.mem_flagged_iff (s : State) (f : DepFlag) (p : PeerEntry) :
    p ∈ s.flagged f ↔ ∃ i : Fin 16, s.peers[i] = p ∧ s.peers[i].has f = true := by
  simp only [State.flagged, List.mem_filter, Vector.mem_toList_iff, Vector.mem_iff_getElem]
  constructor
  · rintro ⟨⟨i, hi, rfl⟩, hf⟩
    exact ⟨⟨i, hi⟩, rfl, hf⟩
  · rintro ⟨i, rfl, hf⟩
    exact ⟨⟨i, i.isLt, rfl⟩, hf⟩

theorem State.flagged_isEmpty_iff (s : State) (f : DepFlag) :
    (s.flagged f).isEmpty = true ↔ ∀ i : Fin 16, ¬s.peers[i].has f = true := by
  rw [List.isEmpty_iff, List.eq_nil_iff_forall_not_mem]
  simp only [State.mem_flagged_iff]
  exact ⟨fun h i hf => h _ ⟨i, rfl, hf⟩, fun h p ⟨i, _, hf⟩ => h i hf⟩

theorem State.flagged_all_iff (s : State) (f : DepFlag) (q : PeerEntry → Bool) :
    (s.flagged f).all q = true ↔ ∀ i : Fin 16, s.peers[i].has f = true → q s.peers[i] = true := by
  simp only [List.all_eq_true, State.mem_flagged_iff]
  exact ⟨fun h i hf => h _ ⟨i, rfl, hf⟩, fun h p ⟨i, hp, hf⟩ => hp ▸ h i hf⟩

/-- A permissive over a flag is true while some entry carries the flag and every one that does contributes (R15). -/
theorem State.formed_iff (s : State) (f : DepFlag) (attr : PeerEntry → StatusBody → Bool) :
    s.formed f attr = true ↔
      (∃ i : Fin 16, s.peers[i].has f = true) ∧
        ∀ i : Fin 16, s.peers[i].has f = true → s.peers[i].contributes attr = true := by
  rw [State.formed, Bool.and_eq_true, State.flagged_all_iff, Bool.not_eq_true', ← Bool.not_eq_true,
    State.flagged_isEmpty_iff]
  simp only [not_forall, not_not]

theorem State.formedReady_iff (s : State) (attr : PeerEntry → StatusBody → Bool) :
    s.formedReady attr = true ↔
      (s.role = .hoist ∧ ∀ i : Fin 16, ¬s.peers[i].has .hoist = true) ∨ s.formed .hoist attr = true := by
  rw [State.formedReady, Bool.or_eq_true, Bool.and_eq_true, State.flagged_isEmpty_iff, beq_iff_eq, and_comm]

/-! ### What an entry contributes to each permissive -/

/-- An entry contributes a phase of a role: it is expected in that role and its copy carries the phase's code. -/
theorem PeerEntry.contributes_phaseAmong_iff {r : Role} {phases : List Phase} (hsub : phases ⊆ r.phases)
    (p : PeerEntry) :
    p.contributes (phaseAmong r phases) = true ↔
      p.state = .tracked ∧ p.role = r ∧
        ∃ c, p.report = some c ∧ c.body.hand = false ∧ c.body.phase ∈ phases.map (phaseCode r) := by
  simp only [PeerEntry.contributes_iff, phaseAmong_eq_true_iff hsub]
  refine and_congr_right fun _ => ?_
  exact ⟨fun ⟨c, hc, hrun, hrole, hph⟩ => ⟨hrole, c, hc, hrun, hph⟩,
    fun ⟨hrole, c, hc, hrun, hph⟩ => ⟨c, hc, hrun, hrole, hph⟩⟩

/-- A copy echoes a demand in number, issuer and kind (R16). -/
theorem echoes_eq_true_iff (d : Demand) (p : PeerEntry) (b : StatusBody) :
    echoes d p b = true ↔
      ∃ e, b.echo = some e ∧ e.number.toNat = d.number ∧ e.issuer.toNat = d.issuer ∧ e.kind = d.kind.code := by
  cases h : b.echo <;> simp [echoes, h, demandKindOf_eq_some_iff, and_assoc]

/-- An entry whose copy carries no zone part contributes no clear zone (R19, R21). -/
theorem PeerEntry.clearZone_of_no_zone {p : PeerEntry} (h : ∀ r, p.report = some r → r.body.zone = none) :
    p.clearZone = false := by
  rw [← Bool.not_eq_true, PeerEntry.clearZone, PeerEntry.contributes_iff]
  rintro ⟨-, r, hr, -, hzone⟩
  simp [h r hr] at hzone

theorem State.evidenceBroken_of_no_zone {s : State} {i : Fin 16} (hflag : s.peers[i].has .detect = true)
    (hzone : ∀ r, s.peers[i].report = some r → r.body.zone = none) : s.evidenceBroken = true := by
  have hall : ¬(s.flagged .detect).all (·.clearZone) = true := fun h =>
    Bool.false_ne_true <| (PeerEntry.clearZone_of_no_zone hzone).symm.trans <|
      (s.flagged_all_iff .detect (·.clearZone)).mp h i hflag
  simp [State.evidenceBroken, hall]

/-! ### The clearance evidence at the end of an event -/

@[simp] theorem State.addOrigin_clearance (s : State) (n : Nat) (r : HaltReason) :
    (s.addOrigin n r).clearance = s.clearance := by
  unfold State.addOrigin
  dsimp only
  split <;> simp

@[simp] theorem State.formHalt_clearance (s : State) (r : HaltReason) : (s.formHalt r).clearance = s.clearance := by
  unfold State.formHalt
  split <;> simp

@[simp] theorem State.raiseCause_clearance (s : State) (c : LocalCause) :
    (s.raiseCause c).clearance = s.clearance := by
  rcases s.raiseCause_cases c with ⟨-, h⟩ | ⟨-, h⟩ <;> simp [h]

theorem State.foldl_raiseCause_clearance (cs : List LocalCause) (s : State) :
    (cs.foldl State.raiseCause s).clearance = s.clearance := by
  induction cs generalizing s with
  | nil => rfl
  | cons c cs ih => simp [ih]

@[simp] theorem State.raiseCauses_clearance (s : State) (cs : List LocalCause) :
    (s.raiseCauses cs).clearance = s.clearance := by
  unfold State.raiseCauses
  split
  · rfl
  · simp
  · simp [State.foldl_raiseCause_clearance]

@[simp] theorem State.endStep_clearance (s : State) : s.endStep.clearance = s.clearance := rfl

@[simp] theorem State.completeStep_clearance (s : State) (st : Step) :
    (s.completeStep st).clearance = s.clearance := rfl

@[simp] theorem State.grantHand_clearance (s : State) : s.grantHand.clearance = s.clearance := by
  unfold State.grantHand State.enterHand State.discardInterrupted
  split
  · dsimp only
    split <;> rfl
  · rfl

@[simp] theorem State.followHandMove_clearance (s : State) : s.followHandMove.clearance = s.clearance := by
  unfold State.followHandMove State.endHandMove
  split
  · split <;> rfl
  · rfl

@[simp] theorem State.followStall_clearance (s : State) : s.followStall.clearance = s.clearance := by
  unfold State.followStall
  split
  · split <;> rfl
  · rfl

@[simp] theorem State.followRecovery_clearance (s : State) : s.followRecovery.clearance = s.clearance := by
  unfold State.followRecovery
  split <;> rfl

@[simp] theorem State.settle_clearance (s : State) : s.settle.clearance = s.clearance := by
  unfold State.settle
  dsimp only
  split <;> simp

theorem State.nextMove_clearance {s : State} {held b : Bool} {r : Bool × State} (h : s.nextMove held b = some r) :
    r.2.clearance = s.clearance := by
  unfold State.nextMove at h
  split at h
  · rcases State.endMove_cases h with ⟨-, rfl⟩ | ⟨-, -, -, rfl | rfl⟩ | ⟨-, -, -, rfl⟩ | ⟨-, -, -, rfl⟩ |
      ⟨-, -, -, -, rfl⟩ <;> simp
  · obtain ⟨st, -, -, -, -, rfl⟩ := State.beginMove_cases h
    simp

@[simp] theorem State.advance_clearance (held : Bool) (n : Nat) (b : Bool) (s : State) :
    (State.advance held n b s).clearance = s.clearance :=
  State.advance_keeps (P := fun t => t.clearance = s.clearance) (fun _ h => by simpa using h)
    (fun _ _ _ h hm => (State.nextMove_clearance hm).trans h) n b s rfl

@[simp] theorem State.noteChange_clearance (s : State) (b : Bool) : (s.noteChange b).clearance = s.clearance := by
  rcases s.noteChange_cases b with h | ⟨-, h⟩
  · rw [h]
  · rw [h]
    unfold State.formStatus
    split <;> rfl

/-- The end of an event makes the clearance evidence follow its broken condition, as the reference and the prewarn hold
leave it, and nothing after that touches it (R72). -/
theorem State.conclude_clearance (before after : State) :
    (State.conclude before after).clearance =
      after.followReference.followPrewarn.followEvidence.clearance := by
  have hreact : ∀ held, (after.react held).clearance =
      after.followReference.followPrewarn.followEvidence.clearance := fun held => by simp [State.react]
  rcases State.conclude_cases before after with h | h <;> simp [h, hreact]

@[simp] theorem State.followReference_peers (s : State) : s.followReference.peers = s.peers :=
  congrArg Still.peers s.followReference_still

@[simp] theorem State.followPrewarn_peers (s : State) : s.followPrewarn.peers = s.peers :=
  congrArg Still.peers s.followPrewarn_still

theorem State.followEvidence_of_broken {s : State} (h : s.evidenceBroken = true) :
    s.followEvidence.clearance = { evidence := .broken, timer := .stopped } := by
  simp [State.followEvidence, h]

/-- An entry under DETECT whose copy carries no zone part holds CLEAR false at the end of an event (R21, R72). -/
theorem State.conclude_clear_of_no_zone (before : State) {s : State} {i : Fin 16}
    (hflag : s.peers[i].has .detect = true) (hzone : ∀ r, s.peers[i].report = some r → r.body.zone = none) :
    (State.conclude before s).permissive .clear = false := by
  have hbroken : s.followReference.followPrewarn.evidenceBroken = true :=
    State.evidenceBroken_of_no_zone (i := i) (by simpa using hflag) (by simpa using hzone)
  simp [State.permissive, State.conclude_clearance, State.followEvidence_of_broken hbroken]

/-! ### Each permissive by itself -/

/-- Every permissive is false outside RUN and HAND (R15). -/
theorem State.permissive_of_not_running {s : State} (h : s.isRunning = false) (p : Permissive) :
    s.permissive p = false := by
  simp [State.permissive, h]

/-- Which entries say what, for a permissive over a flag to be true (R15): the shape of the statement. -/
def State.FormedOf (s : State) (f : DepFlag) (said : StatusBody → Prop) : Prop :=
  (∃ i : Fin 16, s.peers[i].state ≠ .vacant ∧ s.peers[i].flags.getLsbD f.bit = true) ∧
    ∀ i : Fin 16, s.peers[i].state ≠ .vacant ∧ s.peers[i].flags.getLsbD f.bit = true →
      s.peers[i].state = .tracked ∧ ∃ r, s.peers[i].report = some r ∧ r.body.hand = false ∧ said r.body

theorem State.formed_iff_formedOf (s : State) (f : DepFlag) {attr : PeerEntry → StatusBody → Bool}
    {said : StatusBody → Prop} (hattr : ∀ p b, attr p b = true ↔ said b) :
    s.formed f attr = true ↔ s.FormedOf f said := by
  simp only [State.formed_iff, PeerEntry.has_iff, PeerEntry.contributes_iff, hattr, State.FormedOf]

/-- A permissive over phases of a role, in the copies of that role's peers (R18, R20, R21). -/
theorem State.formed_phaseAmong_iff (s : State) (f : DepFlag) {r : Role} {phases : List Phase}
    (hsub : phases ⊆ r.phases) :
    s.formed f (phaseAmong r phases) = true ↔
      (∃ i : Fin 16, s.peers[i].state ≠ .vacant ∧ s.peers[i].flags.getLsbD f.bit = true) ∧
        ∀ i : Fin 16, s.peers[i].state ≠ .vacant ∧ s.peers[i].flags.getLsbD f.bit = true →
          s.peers[i].state = .tracked ∧ s.peers[i].role = r ∧
            ∃ c, s.peers[i].report = some c ∧ c.body.hand = false ∧ c.body.phase ∈ phases.map (phaseCode r) := by
  simp only [State.formed_iff, PeerEntry.has_iff, PeerEntry.contributes_phaseAmong_iff hsub]

/-- A permissive over one phase of a role: the phase's code in every copy, and no flagged entry of another role (R18,
R21). -/
theorem State.formed_phase_iff (s : State) (f : DepFlag) {r : Role} {ph : Phase} (hph : ph ∈ r.phases) :
    s.formed f (phaseAmong r [ph]) = true ↔
      s.FormedOf f (·.phase = phaseCode r ph) ∧
        ∀ i : Fin 16, s.peers[i].state ≠ .vacant ∧ s.peers[i].flags.getLsbD f.bit = true → s.peers[i].role = r := by
  rw [State.formed_phaseAmong_iff s f (by simpa using hph), State.FormedOf, and_assoc]
  simp only [List.map_singleton, List.mem_singleton]
  refine and_congr_right fun _ => ?_
  exact ⟨fun h => ⟨fun i hi => ⟨(h i hi).1, (h i hi).2.2⟩, fun i hi => (h i hi).2.1⟩,
    fun ⟨hsaid, hrole⟩ i hi => ⟨(hsaid i hi).1, hrole i hi, (hsaid i hi).2⟩⟩

/-- A copy under a flag that does not carry a phase's code holds the permissive over that phase false (R18). -/
theorem State.formed_phase_of_other {s : State} {f : DepFlag} {r : Role} {ph : Phase} (hph : ph ∈ r.phases)
    {i : Fin 16} (hflag : s.peers[i].state ≠ .vacant ∧ s.peers[i].flags.getLsbD f.bit = true) {c : Report}
    (hc : s.peers[i].report = some c) (hother : c.body.phase ≠ phaseCode r ph) :
    s.formed f (phaseAmong r [ph]) = false := by
  rw [← Bool.not_eq_true, State.formed_phase_iff s f hph]
  rintro ⟨⟨-, hsaid⟩, -⟩
  obtain ⟨-, c', hc', -, hcode⟩ := hsaid i hflag
  obtain rfl : c = c' := Option.some.inj (hc.symm.trans hc')
  exact hother hcode

/-! ### The statement -/

/-- The permissives over phases of barrier peers (R18). -/
theorem State.permissive_barrier {s : State} (h : s.isRunning = true) :
    s.permissive .entryDown = s.formed .entry (phaseAmong .barrier [.lowered]) ∧
      s.permissive .barriersDown = s.formed .barrier (phaseAmong .barrier [.lowered]) ∧
      s.permissive .barriersUp = s.formed .barrier (phaseAmong .barrier [.raised]) := by
  simp [State.permissive, h]

theorem State.provenSet_roadRed (s : State) :
    s.provenSet.getLsbD 3 = (s.functionProven .roadRedA && s.functionProven .roadRedB) :=
  getLsbD_byteOfBits _ (by decide)

theorem State.provenSet_marineRed (s : State) : s.provenSet.getLsbD 5 = s.functionProven .marineRed :=
  getLsbD_byteOfBits _ (by decide)

/-- AGREED under an adopted demand (R16). -/
theorem State.permissive_agreed_iff {s : State} (h : s.isRunning = true) {d : Demand}
    (hd : s.demand.adopted = some d) :
    s.permissive .agreed = true ↔ s.FormedOf .agree fun b =>
      ∃ e, b.echo = some e ∧ e.number.toNat = d.number ∧ e.issuer.toNat = d.issuer ∧ e.kind = d.kind.code := by
  rw [← s.formed_iff_formedOf .agree (echoes_eq_true_iff d)]
  simp [State.permissive, h, hd]

/-- WARN and MARINE_RED, by the bit of the proven-function set that each asks for (R17). -/
theorem State.permissive_warn_iff {s : State} (h : s.isRunning = true) :
    s.permissive .warn = true ↔ s.FormedOf .roadWarn (·.proven.getLsbD 3 = true) := by
  rw [← s.formed_iff_formedOf .roadWarn (attr := reportsProven roadRedBit) fun _ _ => Iff.rfl]
  simp [State.permissive, h]

theorem State.permissive_marineRed_iff {s : State} (h : s.isRunning = true) :
    s.permissive .marineRed = true ↔ s.FormedOf .marine (·.proven.getLsbD 5 = true) := by
  rw [← s.formed_iff_formedOf .marine (attr := reportsProven marineRedBit) fun _ _ => Iff.rfl]
  simp [State.permissive, h]

/-- The permissives over phases of hoist peers (R20). -/
theorem State.permissive_hoist {s : State} (h : s.isRunning = true) :
    s.permissive .hoistsReadyUp = s.formedReady (phaseAmong .hoist [.readyUp, .raising]) ∧
      s.permissive .hoistsReadyDown = s.formedReady (phaseAmong .hoist [.readyDown, .lowering, .seating]) ∧
      s.permissive .hoistsTop = s.formed .hoist (phaseAmong .hoist [.topHeld]) ∧
      s.permissive .hoistsSeated = s.formed .hoist (phaseAmong .hoist [.seated]) := by
  simp [State.permissive, h]

/-- Settles O46: each permissive over a flag by the entries that carry it (`State.formed_iff`), its condition by the
code or bit the copy carries; CLEAR by the evidence that the end of an event breaks. -/
theorem permissivesAreFormed : Obligations.PermissivesAreFormed := by
  unfold Obligations.PermissivesAreFormed
  refine ⟨fun s h => ?_, fun s h p => State.permissive_of_not_running h p, fun s h => ?_⟩
  · obtain ⟨hentry, hdown, hup⟩ := State.permissive_barrier h
    refine ⟨?entryDown, ?barriersDown, ?barriersUp, ?otherPhase, State.permissive_warn_iff h,
      State.permissive_marineRed_iff h, ?notAgreed, fun d hd => State.permissive_agreed_iff h hd, rfl, ?roadRed,
      ?marineRed, ?clear⟩
    case entryDown => exact hentry ▸ s.formed_phase_iff .entry (ph := .lowered) (by decide)
    case barriersDown => exact hdown ▸ s.formed_phase_iff .barrier (ph := .lowered) (by decide)
    case barriersUp => exact hup ▸ s.formed_phase_iff .barrier (ph := .raised) (by decide)
    case otherPhase =>
      intro i c hflag hc hraised hlowered
      exact ⟨hdown.trans (State.formed_phase_of_other (ph := .lowered) (by decide) hflag hc hlowered),
        hup.trans (State.formed_phase_of_other (ph := .raised) (by decide) hflag hc hraised)⟩
    case notAgreed => exact fun hd => by simp [State.permissive, hd]
    case roadRed => exact s.provenSet_roadRed ▸ (Bool.and_eq_true_iff)
    case marineRed => exact s.provenSet_marineRed ▸ Iff.rfl
    case clear =>
      exact fun before i hflag hzone =>
        State.conclude_clear_of_no_zone before ((PeerEntry.has_iff _ _).mpr hflag) hzone
  · obtain ⟨hreadyUp, hreadyDown, htop, hseated⟩ := State.permissive_hoist h
    have formed {phases : List Phase} (hsub : phases ⊆ Role.hoist.phases) := s.formed_phaseAmong_iff .hoist hsub
    have ready {phases : List Phase} (hsub : phases ⊆ Role.hoist.phases) :=
      (s.formedReady_iff (phaseAmong .hoist phases)).trans (or_congr_right (formed hsub))
    simp only [PeerEntry.has_iff] at ready
    exact ⟨hreadyUp ▸ ready (by decide), hreadyDown ▸ ready (by decide), htop ▸ formed (by decide),
      hseated ▸ formed (by decide)⟩

end Sys2Proof.Machine

/-! ### The order of identities (R22) -/

namespace Sys2Proof.Machine

theorem identityGreater_eq_true_iff (n1 i1 n2 i2 : Nat) :
    identityGreater n1 i1 n2 i2 = true ↔ n2 < n1 ∨ n1 = n2 ∧ i2 < i1 := by
  simp [identityGreater]

/-- The order of identities is the lexicographic order of pairs, number first (R22); that it is total, transitive and
irreflexive are then facts about a linear order. -/
theorem identityGreater_iff_toLex_lt (n1 i1 n2 i2 : Nat) :
    identityGreater n1 i1 n2 i2 = true ↔ toLex (n2, i2) < toLex (n1, i1) := by
  rw [identityGreater_eq_true_iff, Prod.Lex.toLex_gt_toLex]

theorem identityGreater_total (n1 i1 n2 i2 : Nat) :
    identityGreater n1 i1 n2 i2 = true ∨ identityGreater n2 i2 n1 i1 = true ∨ (n1 = n2 ∧ i1 = i2) := by
  simp only [identityGreater_iff_toLex_lt]
  obtain h | h | h := lt_trichotomy (toLex (n2, i2)) (toLex (n1, i1))
  · exact .inl h
  · exact .inr (.inr (Prod.mk.inj (toLex_inj.mp h.symm)))
  · exact .inr (.inl h)

theorem identityGreater_trans {n1 i1 n2 i2 n3 i3 : Nat} (h12 : identityGreater n1 i1 n2 i2 = true)
    (h23 : identityGreater n2 i2 n3 i3 = true) : identityGreater n1 i1 n3 i3 = true := by
  rw [identityGreater_iff_toLex_lt] at *
  exact h23.trans h12

theorem identityGreater_irrefl (n i : Nat) : identityGreater n i n i = false :=
  Bool.eq_false_iff.mpr fun h => lt_irrefl _ ((identityGreater_iff_toLex_lt n i n i).mp h)

theorem Demand.exceeds_none (d : Demand) : d.exceeds none = true := rfl

theorem Demand.exceeds_some (d a : Demand) :
    d.exceeds (some a) = identityGreater d.number d.issuer a.number a.issuer := rfl

/-- Settles O50: the order of identities is the lexicographic order of numbers and issuers
(`identityGreater_iff_toLex_lt`), so a strict total one. -/
theorem identitiesAreOrdered : Obligations.IdentitiesAreOrdered := by
  unfold Obligations.IdentitiesAreOrdered
  refine ⟨identityGreater_eq_true_iff, identityGreater_total, ?transitive, identityGreater_irrefl,
    fun d => ⟨d.exceeds_none, d.exceeds_some⟩⟩
  case transitive => exact fun _ _ _ _ _ _ => identityGreater_trans

end Sys2Proof.Machine

/-!
PROOFS. The stages of the full computation (R98 to R107): what is shared by both of its ends, what the judgements of the
end of travel can do to the level controller and the drive, and the statement of its mean, error and reference.
-/

namespace Sys2Proof.Machine

/-! ### The formulas -/

theorem clampInt_eq_max_min (lo hi x : Int) : clampInt lo hi x = max lo (min hi x) := by
  rw [clampInt, min_comm]

theorem meanHeight_nil (h : Nat) : meanHeight h [] = h := by
  simp [meanHeight]

theorem levelError_self (h : Nat) : levelError h h = 0 := by
  rw [levelError, sub_self]
  rfl

theorem speedReference_up (vMax profile : Nat) (c : Int) :
    speedReference true vMax profile c = max 0 (min (vMax : Int) ((profile : Int) - c)) :=
  clampInt_eq_max_min _ _ _

theorem speedReference_down (vMax profile : Nat) (c : Int) :
    speedReference false vMax profile c = max (-(vMax : Int)) (min 0 (-(profile : Int) - c)) :=
  clampInt_eq_max_min _ _ _

/-- A raise never has a negative reference, and rests where the correction exceeds the profile speed (R105). -/
theorem speedReference_up_bounds (vMax profile : Nat) (c : Int) :
    0 ≤ speedReference true vMax profile c ∧ speedReference true vMax profile c ≤ vMax ∧
      ((profile : Int) < c → speedReference true vMax profile c = 0) := by
  rw [speedReference_up]
  omega

/-- A lowering never has a positive reference, and rests where the correction exceeds the profile speed (R105). -/
theorem speedReference_down_bounds (vMax profile : Nat) (c : Int) :
    -(vMax : Int) ≤ speedReference false vMax profile c ∧ speedReference false vMax profile c ≤ 0 ∧
      (c < -(profile : Int) → speedReference false vMax profile c = 0) := by
  rw [speedReference_down]
  omega

/-! ### A cause that arises: the level controller and the step -/

/-- What the end of motion does to the level controller: nothing, or the speed reference is put to 0. -/
def Level.KeptOrStopped (v v' : Level) : Prop := v' = v ∨ v' = { v with speedRef := 0 }

@[simp] theorem State.stopMotion_level (s : State) : s.stopMotion.level = { s.level with speedRef := 0 } := by
  unfold State.stopMotion State.interruptStep
  split <;> rfl

theorem State.addOrigin_level_keptOrStopped (s : State) (n : Nat) (r : HaltReason) :
    s.level.KeptOrStopped (s.addOrigin n r).level := by
  unfold State.addOrigin
  cases s.halted with
  | true => exact .inl rfl
  | false => exact .inr (State.stopMotion_level _)

theorem State.raiseCause_level_keptOrStopped (s : State) (c : LocalCause) :
    s.level.KeptOrStopped (s.raiseCause c).level := by
  rcases s.raiseCause_cases c with ⟨-, h⟩ | ⟨-, h⟩
  · exact .inl (by rw [h])
  · rw [h, State.formHalt_level]
    exact State.addOrigin_level_keptOrStopped _ _ _

@[simp] theorem HaltRecord.put_origins (h : HaltRecord) (c : LocalCause) : (h.put c).origins = h.origins := by
  unfold HaltRecord.put
  split <;> rfl

/-- A cause that arises changes nothing, or finds the station halted, or leaves no step in progress. -/
theorem State.raiseCause_step_cases (s : State) (c : LocalCause) :
    s.raiseCause c = s ∨ s.halted = true ∨ (s.raiseCause c).seq.step = none := by
  rcases s.raiseCause_cases c with ⟨-, h⟩ | ⟨-, h⟩
  · exact .inl h
  · refine .inr ?_
    rw [h, State.formHalt_seq]
    rcases State.addOrigin_cases { s with halt := s.halt.put c } s.own (.cause c) with
      ⟨hhalted, -⟩ | ⟨-, -, hstep, -⟩
    · exact .inl (by simpa [State.halted] using hhalted)
    · exact .inr hstep

/-! ### The drive and the brake -/

theorem State.driveEnable_of_halted {s : State} (h : s.halted = true) : s.driveEnable = false := by
  simp [State.driveEnable, h]

theorem State.brakeRelease_of_halted {s : State} (h : s.halted = true) : s.brakeRelease = false := by
  simp [State.brakeRelease, h]

theorem State.step_ne_none_of_doing {s : State} {k : ForwardStep} {d : Direction} (h : s.doing k d = true) :
    s.seq.step ≠ none := by
  intro hnone
  simp [State.doing, State.stepNow, hnone] at h

theorem State.step_ne_none_of_hoistTravel {s : State} (h : s.hoistTravel = true) : s.seq.step ≠ none := by
  simp only [State.hoistTravel, Bool.and_eq_true, Bool.or_eq_true] at h
  exact h.2.elim State.step_ne_none_of_doing State.step_ne_none_of_doing

/-- The drive and the brake of `t` are driven as those of `s`. -/
def State.SameDrive (s t : State) : Prop := t.driveEnable = s.driveEnable ∧ t.brakeRelease = s.brakeRelease

theorem State.SameDrive.of_halted {s t : State} (hs : s.halted = true) (ht : t.halted = true) : s.SameDrive t :=
  ⟨by rw [State.driveEnable_of_halted hs, State.driveEnable_of_halted ht],
    by rw [State.brakeRelease_of_halted hs, State.brakeRelease_of_halted ht]⟩

/-- A cause that arises during a step and leaves step and halted status as they were has not touched the drive. -/
theorem State.raiseCause_sameDrive {s : State} {c : LocalCause} (hdoing : s.seq.step ≠ none)
    (hstep : (s.raiseCause c).seq.step = s.seq.step) (hhalted : (s.raiseCause c).halted = s.halted) :
    s.SameDrive (s.raiseCause c) := by
  rcases s.raiseCause_step_cases c with h | h | h
  · rw [h]
    exact ⟨rfl, rfl⟩
  · exact .of_halted h (hhalted.trans h)
  · exact absurd (hstep.symm.trans h) hdoing

/-! ### The end of travel (R107) -/

/-- The seating stage entered where the first judgement of R107 says so. -/
def State.judgeSeating (s : State) : State :=
  { s with hoist := { s.hoist with
      seatingStage := s.hoist.seatingStage || (s.doing .raise .inverse && !s.seq.stopping && s.nearSeat) } }

/-- The judgements of the end of travel: overtravel, the end of a stop, or the seating stage alone. -/
theorem State.endOfTravel_cases (s : State) :
    (s.doing .raise .inverse = true ∧ s.endOfTravel = s.judgeSeating.raiseCause .overtravel) ∨
    (s.hoistTravel = true ∧ s.endOfTravel = s.judgeSeating.endStep) ∨
    s.endOfTravel = s.judgeSeating := by
  have hseating : (if s.doing .raise .inverse && !s.seq.stopping && s.nearSeat then
      { s with hoist := { s.hoist with seatingStage := true } } else s) = s.judgeSeating := by
    unfold State.judgeSeating
    cases s.doing .raise .inverse && !s.seq.stopping && s.nearSeat <;> simp
  unfold State.endOfTravel
  rw [hseating]
  dsimp only
  split
  next hover =>
    simp only [Bool.and_eq_true] at hover
    exact .inl ⟨hover.1.1, rfl⟩
  next =>
    split
    next hstop =>
      simp only [Bool.and_eq_true] at hstop
      exact .inr (.inl ⟨hstop.1.1, rfl⟩)
    next => exact .inr (.inr rfl)

theorem State.endOfTravel_level_keptOrStopped (s : State) : s.level.KeptOrStopped s.endOfTravel.level := by
  rcases s.endOfTravel_cases with ⟨-, h⟩ | ⟨-, h⟩ | h <;> rw [h]
  · exact s.judgeSeating.raiseCause_level_keptOrStopped .overtravel
  · exact .inr rfl
  · exact .inl rfl

/-- Judgements that leave step and halted status as they were have not touched the drive. -/
theorem State.endOfTravel_sameDrive {s : State} (hstep : s.endOfTravel.seq.step = s.seq.step)
    (hhalted : s.endOfTravel.halted = s.halted) : s.SameDrive s.endOfTravel := by
  rcases s.endOfTravel_cases with ⟨hdoing, h⟩ | ⟨htravel, h⟩ | h <;> rw [h] at hstep hhalted ⊢
  · exact State.raiseCause_sameDrive (s := s.judgeSeating) (State.step_ne_none_of_doing hdoing) hstep hhalted
  · exact absurd hstep.symm (State.step_ne_none_of_hoistTravel htravel)
  · exact ⟨rfl, rfl⟩

/-! ### The full computation -/

/-- The state after the stages that both ends of a full computation share: mean, error, accumulator and skew. -/
def State.throughSkew (s : State) : State :=
  let m := meanHeight s.level.height s.peerHeights
  let e := levelError s.level.height m
  let a := accumulate s.level.accumulator e
  ({ s with level := { s.level with
      mean := m, error := e, accumulator := a, sat := s.level.sat || a != s.level.accumulator + e } } : State).formSkew
    s.peerHeights

/-- The correction of the full computation (R100), from its error and accumulator. -/
def State.formedCorrection (s : State) : Int :=
  correction s.cfg.kp s.cfg.ki s.cfg.cMax s.throughSkew.level.error s.throughSkew.level.accumulator

/-- The profile speed of the full computation, a skew warning limiting it (R101 to R103). -/
def State.formedProfile (s : State) (w : ControlWork) : Nat :=
  if s.throughSkew.level.skewWarn then min (s.profileSpeed w) s.cfg.vCreep else s.profileSpeed w

/-- The reference that the full computation sends (R105). -/
def State.formedReference (s : State) (w : ControlWork) (up : Bool) : Int :=
  speedReference up s.cfg.vMax (s.formedProfile w) s.formedCorrection

/-- The state with the reference sent, before the end of travel is judged. -/
def State.throughReference (s : State) (w : ControlWork) (up : Bool) : State :=
  { s.throughSkew with level := { s.throughSkew.level with
      profile := s.formedProfile w
      speedRef := s.formedReference w up
      line := some (s.formedReference w up) } }

theorem State.fullComputation_of_trip {s : State} (w : ControlWork) (up : Bool)
    (h : s.cfg.skewTrip < skewOf s.level.height s.peerHeights) :
    s.fullComputation w up = s.throughSkew.raiseCause .skewTrip :=
  if_pos h

theorem State.fullComputation_of_no_trip {s : State} (w : ControlWork) (up : Bool)
    (h : skewOf s.level.height s.peerHeights ≤ s.cfg.skewTrip) :
    s.fullComputation w up = (s.throughReference w up).endOfTravel :=
  if_neg h.not_gt

/-- Without a trip the level controller ends as the reference left it, or with the speed reference at 0. -/
theorem State.fullComputation_level_of_no_trip {s : State} (w : ControlWork) (up : Bool)
    (h : skewOf s.level.height s.peerHeights ≤ s.cfg.skewTrip) :
    (s.throughReference w up).level.KeptOrStopped (s.fullComputation w up).level :=
  State.fullComputation_of_no_trip w up h ▸ State.endOfTravel_level_keptOrStopped _

/-- Mean and error, whether the skew trips or not, are those of the second and third stages. -/
theorem State.fullComputation_mean_error (s : State) (w : ControlWork) (up : Bool) :
    (s.fullComputation w up).level.mean = meanHeight s.level.height s.peerHeights ∧
    (s.fullComputation w up).level.error = levelError s.level.height (meanHeight s.level.height s.peerHeights) := by
  by_cases htrip : s.cfg.skewTrip < skewOf s.level.height s.peerHeights
  · rw [State.fullComputation_of_trip w up htrip]
    rcases s.throughSkew.raiseCause_level_keptOrStopped .skewTrip with h | h <;> rw [h] <;> exact ⟨rfl, rfl⟩
  · rcases State.fullComputation_level_of_no_trip w up (not_lt.mp htrip) with h | h <;> rw [h] <;> exact ⟨rfl, rfl⟩

theorem State.fullComputation_sameDrive_of_no_trip {s : State} {w : ControlWork} {up : Bool}
    (h : skewOf s.level.height s.peerHeights ≤ s.cfg.skewTrip)
    (hstep : (s.fullComputation w up).seq.step = s.seq.step)
    (hhalted : (s.fullComputation w up).halted = s.halted) : s.SameDrive (s.fullComputation w up) := by
  rw [State.fullComputation_of_no_trip w up h] at hstep hhalted ⊢
  exact State.endOfTravel_sameDrive (s := s.throughReference w up) hstep hhalted

/-- Without a trip the reference of the eighth stage is sent, formed from the profile, error and accumulator that stand
afterwards; it stays as the speed reference unless the end of travel puts that to 0. -/
theorem State.fullComputation_reference_of_no_trip {s : State} (w : ControlWork) (up : Bool)
    (h : skewOf s.level.height s.peerHeights ≤ s.cfg.skewTrip) :
    let v := (s.fullComputation w up).level
    v.line = some (speedReference up s.cfg.vMax v.profile
      (correction s.cfg.kp s.cfg.ki s.cfg.cMax v.error v.accumulator)) ∧
    (v.line = some v.speedRef ∨ v.speedRef = 0) := by
  rcases State.fullComputation_level_of_no_trip w up h with h | h <;> rw [h]
  · exact ⟨rfl, .inl rfl⟩
  · exact ⟨rfl, .inr rfl⟩

/-- Settles O39: mean and error stand through both ends of the computation (`State.fullComputation_mean_error`), and the
reference is the clamped one of the eighth stage (`State.fullComputation_reference_of_no_trip`). -/
theorem fullComputationStages : Obligations.FullComputationStages := by
  unfold Obligations.FullComputationStages
  intro s w up
  obtain ⟨hmean, herror⟩ := s.fullComputation_mean_error w up
  refine ⟨hmean, ?error, ?alone, fun htrip => ?reference⟩
  case error => rw [herror, hmean, levelError, clampInt_eq_max_min]; rfl
  case alone =>
    intro hnone
    rw [herror, hmean, hnone, meanHeight_nil]
    exact ⟨rfl, levelError_self _⟩
  case reference =>
    obtain ⟨hline, hstands⟩ := State.fullComputation_reference_of_no_trip w up htrip
    refine ⟨_, hline, hstands.imp_left fun h => (Option.some.inj (hline.symm.trans h)).symm,
      State.fullComputation_sameDrive_of_no_trip htrip, ?raise, ?lowering⟩
    case raise => rintro rfl; exact ⟨speedReference_up .., speedReference_up_bounds ..⟩
    case lowering => rintro rfl; exact ⟨speedReference_down .., speedReference_down_bounds ..⟩

end Sys2Proof.Machine

/-!
PROOFS. What a command can do, said once: every command leaves the station as it is, or has one of the direct effects of
`State.Outcome`, or is an event of `State.Event` that ends in the reactions of `State.conclude`.
-/

namespace Sys2Proof.Machine

/-! ### The events -/

/-- The state with a valid reception counted on a link and its check in the check register (R153, R159). -/
def State.counted (s : State) (l : Link) (check : BitVec 16) : State := { s.countValid l with crc := check }

/-- The effect of an event at a running station before its reactions, `State.conclude`. -/
inductive State.Event (s : State) : State → Prop
  | input (i : Fin 16) (encoder : Option Word16) (due : s.inputs[i].timer.due s.clock = true)
      (changed : s.inputs[i].level ≠ s.inputs[i].candidate) :
      s.Event ((s.setInput i { s.inputs[i] with level := s.inputs[i].candidate, timer := .stopped }).inputChanged i
        s.inputs[i].candidate encoder)
  | troubled (l : Link) (open_ : s.mayReceive l = true) : s.Event ((s.endReception l).linkTrouble l)
  | damaged (l : Link) (a : Attempt) (sending : (s.link l).attempt = some a) :
      s.Event ((s.setLink l { s.link l with attempt := none }).linkTrouble l)
  | silent (l : Link) (due : (s.link l).silence.due s.clock = true) : s.Event ((s.restartSilence l).linkTrouble l)
  | counted (l : Link) (check : BitVec 16) (open_ : s.mayReceive l = true) :
      s.Event (s.counted l check)
  | delivered (l : Link) (t : Telegram) (open_ : s.mayReceive l = true) (working : (s.link l).failed = false) :
      s.Event ((s.counted l (Machine.crc (encodeTelegram t))).deliver l (s.capturedPhase l) t)
  | sent (l : Link) (a : Attempt) (sending : (s.link l).attempt = some a) :
      s.Event ((s.setLink l ((s.link l).sent a)).linkGood l)
  | deadline (i : Fin 16) (due : s.peers[i].deadline.due s.clock = true) :
      s.Event (s.setPeer i (s.peers[i].missDeadline s.clock s.cfg.peerDeadline s.cfg.lostThreshold))
  | stalled (due : s.demand.stallTimer.due s.clock = true) :
      s.Event { s with demand := { s.demand with stallTimer := .stopped, stalled := true } }
  | supervised (due : s.seq.supervision.due s.clock = true) : s.Event (s.endStep.raiseCause .stepTime)
  | prewarned (due : s.barrier.timer.due s.clock = true) :
      s.Event { s with barrier := { hold := .complete, timer := .stopped } }
  | cleared (due : s.clearance.timer.due s.clock = true) :
      s.Event { s with clearance := { evidence := .proven, timer := .stopped } }
  | ambered (due : s.signal.amberTimer.due s.clock = true) (doing : s.doing .amber .forward = true) :
      s.Event (s.completeStep { kind := .amber, dir := .forward })
  | recovered (due : s.signal.recoveryTimer.due s.clock = true) (recovering : s.inRecovery = true) :
      s.Event s.endRecovery
  | control (encoder : Option Word16) (due : s.level.timer.due s.clock = true) (hoist : s.role = .hoist) :
      s.Event (s.nextControlPeriod.controlExpiry encoder)
  | checked (i : Fin 12) (current : Nat) (due : s.lamps.outputs[i].check.due s.clock = true) :
      s.Event (s.checkOutput i current)
  | retried (i : Fin 12) (due : s.lamps.outputs[i].retry.due s.clock = true) :
      s.Event (s.setOutput i (s.lamps.outputs[i].retryFallsDue s.clock s.cfg))
  | boundary : s.Event s

/-- The state with an attempt of a slot's telegram begun on a link (R154, R158). -/
def State.beginAttempt (s : State) (l : Link) (k : SlotKind) (t : Telegram) : State :=
  let sent := Telegram.stamped t s.flashPhase
  let a : Attempt := { telegram := sent, slot := k, refilled := false, phase := s.flashPhase }
  { s.setLink l { s.link l with attempt := some a } with crc := Machine.crc (encodeTelegram sent) }

/-- The commands that reset the part: POWER_ON and the two edges of RST (R163). -/
def resets : Instr → Bool
  | .powerOn .. | .rstAssert | .rstRelease .. => true
  | _ => false

/-- The next states a command can answer. -/
inductive State.Outcome (s : State) (cmd : Instr) : State → Prop
  | same : s.Outcome cmd s
  | started (strap1 strap2 : Bool) (isReset : resets cmd = true) : s.Outcome cmd (s.startUp strap1 strap2)
  | reset (isReset : resets cmd = true) : s.Outcome cmd s.inReset
  | refused (check : BitVec 16) (reading : s.reading = true) : s.Outcome cmd ({ s with crc := check } : State).failLoad
  | loaded (check : BitVec 16) (reading : s.reading = true) (image : List Byte) (c : StationConfig)
      (accepted : loadImage image = some c) : s.Outcome cmd (({ s with crc := check } : State).acceptImage c)
  | entered (encoder : Option Word16) (ambient : Byte) (starting : s.stage = .starting)
      (due : s.loader.start.due s.clock = true) (command : cmd = .startTimerExpiry encoder ambient) :
      s.Outcome cmd (s.enterRun encoder ambient)
  | line (i : Fin 16) (x : InputLine) (level : x.level = s.inputs[i].level) : s.Outcome cmd (s.setInput i x)
  | heard (l : Link) (open_ : s.mayReceive l = true) :
      s.Outcome cmd (s.setLink l { s.link l with captured := some s.flashPhase })
  | begun (l : Link) (k : SlotKind) (t : Telegram) (first : (s.link l).first = some (k, t))
      (free : s.maySend l = true) :
      s.Outcome cmd (s.beginAttempt l k t)
  | outbid (l : Link) (a : Attempt) (running : s.isRunning = true) (sending : (s.link l).attempt = some a) :
      s.Outcome cmd (s.setLink l { s.link l with attempt := none, captured := some a.phase })
  | beat (f : Former) (running : s.isRunning = true) : s.Outcome cmd { s with former := f }
  | status (f : Former) (sequence : f.sequence = s.former.sequence) (running : s.isRunning = true) :
      s.Outcome cmd ({ s with former := f } : State).formStatus
  | sampled (a : Byte) (running : s.isRunning = true) :
      s.Outcome cmd (({ s with lamps := { s.lamps with ambientTimer := s.lamps.ambientTimer.nextBeat } } :
        State).sampleAmbient a)
  | patterned (idle : s.isRunning = false) : s.Outcome cmd { s with lamps := s.lamps.followDefault }
  | idled (idle : s.isRunning = false) :
      s.Outcome cmd { s with level := { s.nextControlPeriod.level with line := some 0 } }
  | event (check : BitVec 16) (after : State) (running : s.isRunning = true)
      (h : ({ s with crc := check } : State).Event after) :
      s.Outcome cmd (State.conclude { s with crc := check } after)

/-! ### Every command has one of these outcomes -/

theorem State.isRunning_eq_true_iff {s : State} : s.isRunning = true ↔ s.stage = .running := by
  simp [State.isRunning]

theorem State.mayReceive_iff {s : State} {l : Link} :
    s.mayReceive l = true ↔ s.isRunning = true ∧ (s.link l).attempt = none := by
  simp [State.mayReceive]

theorem State.attemptOn_eq_some_iff {s : State} {l : Link} {a : Attempt} :
    s.attemptOn l = some a ↔ s.isRunning = true ∧ (s.link l).attempt = some a := by
  simp [State.attemptOn]

section Outcome

variable {cmd : Instr}

/-- An event whose check register is left as it was. -/
theorem State.Outcome.plainEvent {s after : State} (running : s.isRunning = true) (h : s.Event after) :
    s.Outcome cmd (State.conclude s after) :=
  .event s.crc after running h

theorem State.Outcome.troubledReception (s : State) (l : Link) : s.Outcome cmd (s.troubledReception l) := by
  unfold State.troubledReception
  split
  next h => exact .plainEvent (State.mayReceive_iff.mp h).1 (.troubled l h)
  next => exact .same

theorem State.Outcome.countedReception (s : State) (l : Link) (bytes : List Byte) :
    s.Outcome cmd (s.countedReception l bytes) := by
  unfold State.countedReception
  split
  next h => exact .plainEvent (State.mayReceive_iff.mp h).1 (.counted l _ h)
  next => exact .same

theorem State.Outcome.receive (s : State) (l : Link) (t : Telegram) : s.Outcome cmd (s.receive l t) := by
  unfold State.receive
  split
  next h =>
    have running := (State.mayReceive_iff.mp h).1
    cases hf : (s.link l).failed with
    | true => exact .plainEvent running (.counted l _ h)
    | false => exact .plainEvent running (.delivered l t h hf)
  next => exact .same

theorem State.Outcome.badCheckReception (s : State) (l : Link) (bytes : List Byte) (h : s.mayReceive l = true) :
    s.Outcome cmd ((s.checked bytes).troubledReception l) := by
  have hopen : (s.checked bytes).mayReceive l = true := by cases l <;> exact h
  rw [State.troubledReception, if_pos hopen]
  exact .event _ _ (State.mayReceive_iff.mp h).1 (.troubled l hopen)

theorem State.Outcome.imageReadEnd (s : State) (response : Option (List Byte)) {t : State}
    (h : execImageReadEnd response s = .next t) : s.Outcome cmd t := by
  obtain rfl := Host.Outcome.next.inj h
  split
  next hreading =>
    cases response with
    | none => exact .refused s.crc hreading
    | some image =>
      dsimp only
      split
      · exact .same
      · split
        · exact .refused s.crc hreading
        · unfold State.judgeImage
          dsimp only
          split
          next c hc => exact .loaded _ hreading image c hc
          next => exact .refused _ hreading
  next => exact .same

theorem State.Outcome.rawInputChange (s : State) (i : Fin 16) (level : Bool) {t : State}
    (h : execRawInputChange i level s = .next t) : s.Outcome cmd t := by
  obtain rfl := Host.Outcome.next.inj h
  split
  · exact .same
  · split
    · exact .line i _ rfl
    · exact .line i _ rfl

theorem State.Outcome.debounceExpiry (s : State) (i : Fin 16) (encoder : Option Word16) {t : State}
    (h : execDebounceExpiry i encoder s = .next t) : s.Outcome cmd t := by
  obtain rfl := Host.Outcome.next.inj h
  split
  next hdue =>
    rw [Bool.and_eq_true] at hdue
    split
    next hrunning =>
      dsimp only
      split
      next hsame => exact .line i _ (beq_iff_eq.mp hsame).symm
      next hchanged => exact .plainEvent hrunning (.input i encoder hdue.2 (by simpa using hchanged))
    next => exact .line i _ rfl
  next => exact .same

theorem State.Outcome.controlPeriodExpiry (s : State) (encoder : Option Word16) {t : State}
    (h : execControlPeriodExpiry encoder s = .next t) : s.Outcome cmd t := by
  obtain rfl := Host.Outcome.next.inj h
  split
  next hdue =>
    split
    next => exact .same
    next hstage =>
      split
      next hrole =>
        exact .plainEvent (State.isRunning_eq_true_iff.mpr hstage) (.control encoder hdue (by simpa using hrole))
      next => exact .same
    next hstage => exact .idled (by simpa [State.isRunning] using hstage)
  next => exact .same

theorem State.Outcome.ofRunningAnd {s after : State} {p : Bool} (h : p = true → s.Event after) :
    s.Outcome cmd (if s.isRunning && p then State.conclude s after else s) := by
  split
  next hp =>
    rw [Bool.and_eq_true] at hp
    exact .plainEvent hp.1 (h hp.2)
  next => exact .same

end Outcome

/-- Every command has an outcome of `State.Outcome`. -/
theorem State.exec_outcome {c : Instr} {s t : State} (h : exec c s = .next t) : s.Outcome c t := by
  cases c with
  | powerOn strap1 strap2 => cases h; exact .started strap1 strap2 rfl
  | rstAssert => cases h; exact .reset rfl
  | rstRelease strap1 strap2 =>
    cases h
    split
    · exact .started strap1 strap2 rfl
    · exact .same
  | imageReadEnd response => exact .imageReadEnd s response h
  | imageReadTimeout =>
    cases h
    split
    next hdue =>
      rw [Bool.and_eq_true] at hdue
      exact .refused s.crc hdue.1
    next => exact .same
  | startTimerExpiry encoder ambient =>
    cases h
    split
    next hdue =>
      rw [Bool.and_eq_true, beq_iff_eq] at hdue
      exact .entered encoder ambient hdue.1 hdue.2 rfl
    next => exact .same
  | rawInputChange i level => exact .rawInputChange s i level h
  | debounceExpiry i encoder => exact .debounceExpiry s i encoder h
  | receptionStart l =>
    cases h
    split
    next hopen => exact .heard l hopen
    next => exact .same
  | badCheckReception l bytes =>
    cases h
    split
    next hbad =>
      rw [Bool.and_eq_true] at hbad
      exact .badCheckReception s l bytes hbad.2
    next => exact .same
  | framingError l bytes => cases h; exact .troubledReception s l
  | failedLinkReception l bytes =>
    cases h
    split
    · split
      · exact .countedReception s l bytes
      · exact .countedReception s l bytes
      · exact .same
    · exact .same
  | malformedTelegram l bytes =>
    cases h
    split
    · exact .countedReception s l bytes
    · exact .same
  | ownNumberTelegram l bytes =>
    cases h
    split
    · split
      · exact .receive s l _
      · exact .same
    · exact .same
  | statusReceived l sender seq body => cases h; exact .receive s l _
  | demandReceived l sender seq kind number => cases h; exact .receive s l _
  | haltReceived l sender seq mask reason => cases h; exact .receive s l _
  | resumeReceived l sender seq mask => cases h; exact .receive s l _
  | queryReceived l sender seq target => cases h; exact .receive s l _
  | recordReceived l sender seq bytes => cases h; exact .receive s l _
  | attemptBegin l =>
    cases h
    split
    next k t hfirst =>
      split
      next hfree => exact .begun l k t hfirst hfree
      next => exact .same
    next => exact .same
  | attemptSent l =>
    cases h
    split
    next a ha =>
      obtain ⟨hrunning, hsending⟩ := State.attemptOn_eq_some_iff.mp ha
      exact .plainEvent hrunning (.sent l a hsending)
    next => exact .same
  | attemptLostContention l =>
    cases h
    split
    next a ha =>
      obtain ⟨hrunning, hsending⟩ := State.attemptOn_eq_some_iff.mp ha
      exact .outbid l a hrunning hsending
    next => exact .same
  | attemptDamaged l =>
    cases h
    split
    next a ha =>
      obtain ⟨hrunning, hsending⟩ := State.attemptOn_eq_some_iff.mp ha
      exact .plainEvent hrunning (.damaged l a hsending)
    next => exact .same
  | silenceTimerExpiry l => cases h; exact .ofRunningAnd (.silent l)
  | deadlineExpiry i => cases h; exact .ofRunningAnd (.deadline i)
  | stallTimerExpiry => cases h; exact .ofRunningAnd .stalled
  | supervisionExpiry => cases h; exact .ofRunningAnd .supervised
  | prewarnTimerExpiry => cases h; exact .ofRunningAnd .prewarned
  | tClearExpiry => cases h; exact .ofRunningAnd .cleared
  | amberTimerExpiry =>
    cases h
    rw [Bool.and_assoc]
    refine .ofRunningAnd fun hp => ?_
    rw [Bool.and_eq_true] at hp
    exact .ambered hp.1 hp.2
  | recoveryTimerExpiry =>
    cases h
    rw [Bool.and_assoc]
    refine .ofRunningAnd fun hp => ?_
    rw [Bool.and_eq_true] at hp
    exact .recovered hp.2 hp.1
  | controlPeriodExpiry encoder => exact .controlPeriodExpiry s encoder h
  | statusPeriodExpiry =>
    cases h
    split
    next hdue =>
      rw [Bool.and_eq_true] at hdue
      exact .status _ rfl hdue.1
    next => exact .same
  | gapTimerExpiry =>
    cases h
    split
    next hdue =>
      rw [Bool.and_eq_true] at hdue
      dsimp only
      split
      · exact .status _ rfl hdue.1
      · exact .beat _ hdue.1
    next => exact .same
  | checkTimerExpiry i current => cases h; exact .ofRunningAnd (.checked i current.val)
  | retryTimerExpiry i => cases h; exact .ofRunningAnd (.retried i)
  | ambientSample level =>
    cases h
    split
    next hdue =>
      rw [Bool.and_eq_true] at hdue
      exact .sampled level hdue.1
    next => exact .same
  | flashHalfBoundary =>
    cases h
    split
    next hrunning => exact .plainEvent hrunning .boundary
    next => exact .same
  | defaultPhaseBoundary =>
    cases h
    split
    next hstage => exact .patterned (by simp [State.isRunning, hstage])
    next hstage => exact .patterned (by simp [State.isRunning, hstage])
    next => exact .same

/-- A step is a millisecond of station time or the outcome of the command at the front of the queue. -/
theorem State.step_outcome {s t : State} (h : step s = .next t) :
    t = s.tick ∨ ∃ rest cmd, ({ s with pending := rest } : State).Outcome cmd t := by
  unfold step at h
  split at h
  next c rest _ => exact .inr ⟨rest, c, State.exec_outcome h⟩
  next => exact .inl (Host.Outcome.next.inj h).symm

/-- What a millisecond and every outcome of a command keep, whatever waits in the queue, every step keeps. -/
theorem State.step_keeps {P : State → Prop} (queue : ∀ s rest, P s → P { s with pending := rest })
    (tick : ∀ s, P s → P s.tick) (outcome : ∀ s t cmd, P s → s.Outcome cmd t → P t) {s t : State} (hs : P s)
    (h : step s = .next t) : P t := by
  rcases State.step_outcome h with rfl | ⟨rest, cmd, hout⟩
  · exact tick s hs
  · exact outcome _ t cmd (queue s rest hs) hout

end Sys2Proof.Machine

/-!
PROOFS. What each operation of an event changes of the untouched part of the state (`State.still`): the reactions leave
it alone, so that what stands here is what the event itself does.
-/

namespace Sys2Proof.Machine

/-! ### Links -/

@[simp] theorem State.setLink_setLink (s : State) (l : Link) (c c' : LinkController) :
    (s.setLink l c).setLink l c' = s.setLink l c' := by
  cases l <;> rfl

@[simp] theorem State.setLink_link_self (s : State) (l : Link) : s.setLink l (s.link l) = s := by
  cases l <;> rfl

theorem State.setLink_still_congr {s s' : State} (l : Link) {c c' : LinkController} (hs : s.still = s'.still)
    (hc : c.still = c'.still) : (s.setLink l c).still = (s'.setLink l c').still := by
  cases l
  · exact congrArg (fun x : Still => { x with linkA := c.still }) hs |>.trans (by rw [hc])
  · exact congrArg (fun x : Still => { x with linkB := c.still }) hs |>.trans (by rw [hc])

theorem LinkController.judge_still (c : LinkController) (n : Nat) :
    (c.judge n).still = ({ c with state := c.state.judge n, health := n } : LinkController).still := by
  obtain ⟨hhealth, hstate, hcaptured, hsilence, -⟩ := c.judge_cases n
  simp [LinkController.still, hhealth, hstate, hcaptured, hsilence]

theorem State.setHealth_still (s : State) (l : Link) (n : Nat) :
    (s.setHealth l n).still =
      (s.setLink l { s.link l with state := (s.link l).state.judge n, health := n }).still := by
  rw [← State.setLink_still_congr l rfl ((s.link l).judge_still n)]
  rcases s.setHealth_cases l n with ⟨-, h⟩ | ⟨-, -, h⟩ | ⟨-, -, h⟩ <;> simp [h]

theorem State.linkTrouble_still (s : State) (l : Link) :
    (s.linkTrouble l).still = (s.setLink l (s.link l).troubled).still :=
  s.setHealth_still l _

theorem State.linkGood_still (s : State) (l : Link) :
    (s.linkGood l).still =
      (s.setLink l { s.link l with
        health := (s.link l).health - 1, state := (s.link l).state.judge ((s.link l).health - 1) }).still :=
  s.setHealth_still l _

theorem State.countValid_still (s : State) (l : Link) :
    (s.countValid l).still = (s.setLink l ((s.link l).heard s.clock s.cfg.linkSilence)).still := by
  rw [State.countValid, State.linkGood_still]
  simp [State.restartSilence, State.endReception, LinkController.heard, State.startTimer]

/-! ### Demands and peers -/

theorem State.adopt_still (s : State) (d : Demand) : (s.adopt d).still = { s.still with adopted := some d } := by
  unfold State.adopt
  dsimp only
  split
  · split
    · rfl
    · rw [State.stopTravel_still]
      rfl
  · rfl

theorem State.receiveDemand_still (s : State) (d : Demand) :
    (s.receiveDemand d).still = { s.still with adopted := (s.receiveDemand d).demand.adopted } := by
  rcases s.receiveDemand_cases d with ⟨-, h⟩ | ⟨-, h⟩
  · rw [h]
    rfl
  · rw [h, State.adopt_still, State.adopt_demand]

theorem State.takeDemand_still (s : State) (sender : Nat) (kind : Byte) (number : Word16) :
    (s.takeDemand sender kind number).still =
      { s.still with adopted := (s.takeDemand sender kind number).demand.adopted } := by
  unfold State.takeDemand
  split
  · exact s.receiveDemand_still _
  · rfl

theorem State.takeEcho_still (s : State) (echo : Option Echo) :
    (s.takeEcho echo).still = { s.still with adopted := (s.takeEcho echo).demand.adopted } := by
  unfold State.takeEcho
  split
  · split
    · exact s.receiveDemand_still _
    · rfl
  · rfl

theorem State.adopt_lamps (s : State) (d : Demand) : (s.adopt d).lamps = s.lamps := by
  unfold State.adopt State.stopTravel
  dsimp only
  split
  · split
    · rfl
    · split
      · split <;> rfl
      · rfl
  · rfl

theorem State.takeEcho_lamps (s : State) (echo : Option Echo) : (s.takeEcho echo).lamps = s.lamps := by
  unfold State.takeEcho State.receiveDemand
  split
  · split
    · split
      · exact s.adopt_lamps _
      · rfl
    · rfl
  · rfl

/-- An accepted STATUS recorded in its entry, PEER_CONFIG set at a wrong role (R5, R8). -/
def State.reported (s : State) (i : Fin 16) (p : PeerEntry) (fits : Bool) : State :=
  { s.setPeer i p with peerConfig := s.peerConfig || !fits }

/-- The state of an accepted STATUS before its echo is offered: recorded, the reference chosen and the phase
corrected. -/
def State.recordStatus (s : State) (i : Fin 16) (p : PeerEntry) (fits : Bool) (stamp captured : Nat) : State :=
  if (s.reported i p fits).followReference.lamps.reference == some p.station then
    (s.reported i p fits).followReference.correctPhase stamp captured
  else (s.reported i p fits).followReference

theorem State.correctPhase_still (s : State) (stamp captured : Nat) :
    (s.correctPhase stamp captured).still =
      { s.still with phase := (s.correctPhase stamp captured).lamps.phase } := rfl

theorem State.recordStatus_still (s : State) (i : Fin 16) (p : PeerEntry) (fits : Bool) (stamp captured : Nat) :
    (s.recordStatus i p fits stamp captured).still =
      { s.still with
        peers := s.peers.set i p
        peerConfig := s.peerConfig || !fits
        phase := (s.recordStatus i p fits stamp captured).lamps.phase } := by
  have hreported := (s.reported i p fits).followReference_still
  unfold State.recordStatus
  split
  · rw [State.correctPhase_still, hreported]
    rfl
  · rw [show (s.reported i p fits).followReference.lamps.phase = s.lamps.phase from
      congrArg Still.phase hreported, hreported]
    rfl

theorem State.acceptStatus_eq (s : State) (i : Fin 16) (l : Link) (captured : Nat) (seq : Byte) (body : StatusBody) :
    let p := s.peers[i].takeStatus s.cfg.peerDeadline { now := s.clock, captured := captured, link := l } seq body
    let s3 := s.recordStatus i p (p.roleFits body) body.stamp.toNat captured
    s.acceptStatus i l captured seq body = if p.state == .tracked then s3.takeEcho body.echo else s3 := rfl

theorem State.acceptStatus_still (s : State) (i : Fin 16) (l : Link) (captured : Nat) (seq : Byte)
    (body : StatusBody) :
    let p := s.peers[i].takeStatus s.cfg.peerDeadline { now := s.clock, captured := captured, link := l } seq body
    (s.acceptStatus i l captured seq body).still =
      { s.still with
        peers := s.peers.set i p
        peerConfig := s.peerConfig || !p.roleFits body
        adopted := (s.acceptStatus i l captured seq body).demand.adopted
        phase := (s.acceptStatus i l captured seq body).lamps.phase } := by
  intro p
  rw [State.acceptStatus_eq]
  split
  · rw [State.takeEcho_still, State.recordStatus_still, State.takeEcho_lamps]
  · have h := s.recordStatus_still i p (p.roleFits body) body.stamp.toNat captured
    refine h.trans ?_
    rw [show (s.recordStatus i p (p.roleFits body) body.stamp.toNat captured).demand.adopted = s.demand.adopted from
      congrArg Still.adopted h]
    rfl

/-! ### Delivery -/

theorem State.takeHalt_still (s : State) (sender : Nat) (mask : StationMask) (reason : Byte) :
    (s.takeHalt sender mask reason).still = s.still := by
  unfold State.takeHalt
  split <;> simp

theorem State.takeResume_still (s : State) (sender : Nat) (mask : StationMask) :
    (s.takeResume sender mask).still = s.still := by
  unfold State.takeResume
  split <;> simp

theorem State.takeQuery_still (s : State) (sender target : Nat) : (s.takeQuery sender target).still = s.still := by
  unfold State.takeQuery
  split <;> simp

theorem State.handOn_still (s : State) (sender : Nat) (body : TelegramBody) :
    (s.handOn sender body).still = { s.still with adopted := (s.handOn sender body).demand.adopted } := by
  have keeps {t : State} (h : t.still = s.still) : t.still = { s.still with adopted := t.demand.adopted } :=
    h.trans (by rw [show t.demand.adopted = s.demand.adopted from congrArg Still.adopted h]; rfl)
  cases body with
  | halt mask reason => exact keeps (s.takeHalt_still sender mask reason)
  | resume mask => exact keeps (s.takeResume_still sender mask)
  | demand kind number => exact s.takeDemand_still sender kind number
  | query target => exact keeps (s.takeQuery_still sender target.toNat)
  | status body => rfl
  | record bytes => rfl

@[simp] theorem State.setPeer_still (s : State) (i : Fin 16) (p : PeerEntry) :
    (s.setPeer i p).still = { s.still with peers := s.peers.set i p } := rfl

/-- What a delivery does with a telegram, judged in the order of R161. -/
inductive State.Delivered (s : State) (l : Link) (captured : Nat) (t : Telegram) : State → Prop
  | dropped : s.Delivered l captured t s
  | own (known : 1 ≤ t.sender.toNat ∧ t.sender.toNat ≤ 31) (isOwn : t.sender.toNat = s.own) :
      s.Delivered l captured t (s.raiseCause .dupStation)
  | handed (known : 1 ≤ t.sender.toNat ∧ t.sender.toNat ≤ 31) (other : t.sender.toNat ≠ s.own)
      (entry : s.entryOf t.sender.toNat = none) : s.Delivered l captured t (s.handOn t.sender.toNat t.body)
  | status (known : 1 ≤ t.sender.toNat ∧ t.sender.toNat ≤ 31) (other : t.sender.toNat ≠ s.own) (i : Fin 16)
      (body : StatusBody) (entry : s.entryOf t.sender.toNat = some i) (accepted : s.peers[i].accepts t.seq = true)
      (kind : t.body = .status body) : s.Delivered l captured t (s.acceptStatus i l captured t.seq body)
  | taken (known : 1 ≤ t.sender.toNat ∧ t.sender.toNat ≤ 31) (other : t.sender.toNat ≠ s.own) (i : Fin 16)
      (entry : s.entryOf t.sender.toNat = some i) (accepted : s.peers[i].accepts t.seq = true)
      (kind : ∀ body, t.body ≠ .status body) :
      s.Delivered l captured t ((s.setPeer i (s.peers[i].takeOther t.seq t.body)).handOn t.sender.toNat t.body)

theorem sender_known_of_wellFormed {t : Telegram} (h : telegramMalformed t = false) :
    1 ≤ t.sender.toNat ∧ t.sender.toNat ≤ 31 := by
  simp only [telegramMalformed, Bool.or_eq_false_iff, beq_eq_false_iff_ne, decide_eq_false_iff_not] at h
  omega

theorem State.deliver_delivered (s : State) (l : Link) (captured : Nat) (t : Telegram) :
    s.Delivered l captured t (s.deliver l captured t) := by
  unfold State.deliver
  split
  · exact .dropped
  next hformed =>
    have known := sender_known_of_wellFormed (by simpa using hformed)
    split
    next hown => exact .own known (by simpa using hown)
    next hother =>
      rw [beq_iff_eq] at hother
      split
      next hnone => exact .handed known hother hnone
      next i hsome =>
        split
        · exact .dropped
        next hacc =>
          have hacc : s.peers[i].accepts t.seq = true := by simpa using hacc
          split
          next body hbody => exact .status known hother i body hsome hacc hbody
          next hbody => exact .taken known hother i hsome hacc hbody

/-! ### Inputs -/

theorem State.pressDemand_still (s : State) (k : DemandKind) :
    (s.pressDemand k).still =
      { s.still with
        adopted := (s.pressDemand k).demand.adopted
        counter := (s.pressDemand k).demand.counter
        exhausted := (s.pressDemand k).demand.exhausted } := by
  unfold State.pressDemand
  split
  · rfl
  · split
    · rfl
    · dsimp only
      rw [State.formTelegram_still, State.formTelegram_demand, State.adopt_still, State.adopt_demand]
      rfl

@[simp] theorem State.beginHandMove_still (s : State) (m : HandMove) : (s.beginHandMove m).still = s.still := by
  unfold State.beginHandMove
  dsimp only
  split <;> rfl

@[simp] theorem State.handButtonChanged_still (s : State) (m : HandMove) (active : Bool) :
    (s.handButtonChanged m active).still = s.still := by
  unfold State.handButtonChanged
  split
  · split <;> simp
  · split <;> simp

theorem State.rebuild_still (s : State) (encoder : Option Word16) :
    (s.rebuild encoder).still =
      { s.still with level := { s.still.level with height := (s.rebuild encoder).level.height } } := by
  unfold State.rebuild
  split <;> rfl

theorem State.keyInactive_still (s : State) (encoder : Option Word16) :
    (s.keyInactive encoder).still =
      { s.still with level := { s.still.level with height := (s.keyInactive encoder).level.height } } := by
  unfold State.keyInactive
  split
  · rfl
  · rfl
  · have hlevel (t : State) : t.level.height = t.still.level.height := rfl
    have hrebuild := State.rebuild_still
      ({ s.endHandMove with hand := { s.endHandMove.hand with state := .off } } : State) encoder
    rw [show ({ s.endHandMove with hand := { s.endHandMove.hand with state := .off } } : State).still = s.still from
      s.endHandMove_still] at hrebuild
    dsimp only
    split
    · rw [hlevel (State.raiseCause _ _), State.raiseCause_still]
      exact hrebuild
    · exact hrebuild

/-- What the fields of the untouched part are that an input recognized as changed may change: those of the demand record
at a desk, and the height at a hoist's rebuild. -/
theorem State.inputChanged_still (s : State) (i : Fin 16) (active : Bool) (encoder : Option Word16) :
    let t := s.inputChanged i active encoder
    t.still = { s.still with
      adopted := t.demand.adopted, counter := t.demand.counter, exhausted := t.demand.exhausted,
      level := { s.still.level with height := t.level.height } } := by
  intro t
  have keeps (t : State) (h : t.still = s.still) : t.still = { s.still with
      adopted := t.demand.adopted, counter := t.demand.counter, exhausted := t.demand.exhausted,
      level := { s.still.level with height := t.level.height } } := by rw [← h]; rfl
  have presses (k : DemandKind) : (s.pressDemand k).still = { s.still with
      adopted := (s.pressDemand k).demand.adopted, counter := (s.pressDemand k).demand.counter,
      exhausted := (s.pressDemand k).demand.exhausted,
      level := { s.still.level with height := (s.pressDemand k).level.height } } := by
    have h := s.pressDemand_still k
    rw [show (s.pressDemand k).level.height = s.level.height from congrArg (·.level.height) h]
    exact h
  have buttons (m : HandMove) (k : DemandKind) : (s.buttonChanged m k active).still = { s.still with
      adopted := (s.buttonChanged m k active).demand.adopted, counter := (s.buttonChanged m k active).demand.counter,
      exhausted := (s.buttonChanged m k active).demand.exhausted,
      level := { s.still.level with height := (s.buttonChanged m k active).level.height } } := by
    unfold State.buttonChanged
    split
    · split
      · exact presses k
      · rfl
    · rfl
    · exact keeps _ (s.handButtonChanged_still m active)
  have key : (s.keyInactive encoder).still = { s.still with
      adopted := (s.keyInactive encoder).demand.adopted, counter := (s.keyInactive encoder).demand.counter,
      exhausted := (s.keyInactive encoder).demand.exhausted,
      level := { s.still.level with height := (s.keyInactive encoder).level.height } } := by
    have h := s.keyInactive_still encoder
    rw [show (s.keyInactive encoder).demand.adopted = s.demand.adopted from congrArg (·.adopted) h,
      show (s.keyInactive encoder).demand.counter = s.demand.counter from congrArg (·.counter) h,
      show (s.keyInactive encoder).demand.exhausted = s.demand.exhausted from congrArg (·.exhausted) h]
    exact h
  have detectors (k : Nat) : (s.detectorChanged k active).still = s.still := by
    unfold State.detectorChanged
    split <;> rfl
  show (s.inputChanged i active encoder).still = _
  unfold t State.inputChanged
  split
  · split
    · exact keeps _ (by simp)
    · exact keeps _ rfl
  · split
    · split
      · exact keeps _ (by simp)
      · exact key
    · exact keeps _ rfl
  · exact buttons _ _
  · exact buttons _ _
  · split
    · exact keeps _ (by unfold State.pressHalt; split <;> simp)
    · exact keeps _ rfl
  · split
    · exact keeps _ (by simp [State.pressResume])
    · exact keeps _ rfl
  · exact keeps _ (detectors 0)
  · exact keeps _ (detectors 1)
  · exact keeps _ (detectors 2)
  · exact keeps _ (detectors 3)
  · exact keeps _ rfl

/-! ### Level control -/

theorem State.raiseCause_level_still (s : State) (c : LocalCause) : (s.raiseCause c).level.still = s.level.still :=
  congrArg Still.level (s.raiseCause_still c)

theorem State.endOfTravel_still (s : State) : s.endOfTravel.still = s.still := by
  rcases s.endOfTravel_cases with ⟨-, h⟩ | ⟨-, h⟩ | h <;> rw [h]
  · exact (s.judgeSeating.raiseCause_still _).trans rfl
  · rfl
  · rfl

theorem State.fullComputation_still (s : State) (w : ControlWork) (up : Bool) :
    (s.fullComputation w up).still = { s.still with level := (s.fullComputation w up).level.still } := by
  by_cases htrip : s.cfg.skewTrip < skewOf s.level.height s.peerHeights
  · rw [State.fullComputation_of_trip w up htrip, State.raiseCause_level_still, State.raiseCause_still]
    rfl
  · have h := (s.throughReference w up).endOfTravel_still
    rw [State.fullComputation_of_no_trip w up (not_lt.mp htrip), h,
      show (s.throughReference w up).endOfTravel.level.still = (s.throughReference w up).level.still from
        congrArg Still.level h]
    rfl

theorem State.controlExpiry_still (s : State) (encoder : Option Word16) :
    (s.controlExpiry encoder).still = { s.still with level := (s.controlExpiry encoder).level.still } := by
  unfold State.controlExpiry
  split
  · rw [State.raiseCause_level_still, State.raiseCause_still]
    rfl
  · dsimp only
    split
    · rfl
    · rfl
    all_goals rw [State.fullComputation_still]; rfl

end Sys2Proof.Machine

/-!
PROOFS. The parts of the state that no event touches, the untouched part at the entry into RUN, and the peer table that
every step keeps (section 1.3).
-/

namespace Sys2Proof.Machine

/-! ### What no event touches -/

/-- What neither an event nor its reactions touch: reset, the image and the entry into RUN alone set it, and time. -/
structure Fixed where
  stage : Stage
  clock : Time
  loader : Loader
  cfg : StationConfig
  pattern : Command
  defaultPhase : Nat
  ambientTimer : Timer
  pending : List Instr

/-- The part of an untouched part that no event touches. -/
def Still.fixed (x : Still) : Fixed :=
  { stage := x.stage, clock := x.clock, loader := x.loader, cfg := x.cfg, pattern := x.pattern,
    defaultPhase := x.defaultPhase, ambientTimer := x.ambientTimer, pending := x.pending }

theorem State.setLink_fixed (s : State) (l : Link) (c : LinkController) :
    (s.setLink l c).still.fixed = s.still.fixed := by
  cases l <;> rfl

theorem State.linkGood_fixed (s : State) (l : Link) : (s.linkGood l).still.fixed = s.still.fixed := by
  rw [State.linkGood_still, State.setLink_fixed]

theorem State.linkTrouble_fixed (s : State) (l : Link) : (s.linkTrouble l).still.fixed = s.still.fixed := by
  rw [State.linkTrouble_still, State.setLink_fixed]

theorem State.countValid_fixed (s : State) (l : Link) : (s.countValid l).still.fixed = s.still.fixed := by
  rw [State.countValid_still, State.setLink_fixed]

theorem State.Delivered.still {s d : State} {l : Link} {captured : Nat} {t : Telegram}
    (h : s.Delivered l captured t d) : d.still = { s.still with
      peers := d.peers, peerConfig := d.peerConfig, adopted := d.demand.adopted, phase := d.lamps.phase } := by
  have handed (q : State) (body : TelegramBody) : (q.handOn t.sender.toNat body).still = { q.still with
      peers := (q.handOn t.sender.toNat body).peers, peerConfig := (q.handOn t.sender.toNat body).peerConfig,
      adopted := (q.handOn t.sender.toNat body).demand.adopted,
      phase := (q.handOn t.sender.toNat body).lamps.phase } := by
    have h := q.handOn_still t.sender.toNat body
    rw [show (q.handOn t.sender.toNat body).peers = q.peers from congrArg Still.peers h,
      show (q.handOn t.sender.toNat body).peerConfig = q.peerConfig from congrArg Still.peerConfig h,
      show (q.handOn t.sender.toNat body).lamps.phase = q.lamps.phase from congrArg Still.phase h]
    exact h
  have keeps (q : State) (h : q.still = s.still) : q.still = { s.still with
      peers := q.peers, peerConfig := q.peerConfig, adopted := q.demand.adopted, phase := q.lamps.phase } := by
    rw [← h]
    rfl
  cases h with
  | dropped => exact keeps _ rfl
  | own => exact keeps _ (by simp)
  | handed => exact handed s t.body
  | status _ _ i body =>
    have hstatus := s.acceptStatus_still i l captured t.seq body
    rw [show (s.acceptStatus i l captured t.seq body).peers = _ from congrArg Still.peers hstatus,
      show (s.acceptStatus i l captured t.seq body).peerConfig = _ from congrArg Still.peerConfig hstatus]
    exact hstatus
  | taken _ _ i => exact handed (s.setPeer i (s.peers[i].takeOther t.seq t.body)) t.body

theorem State.deliver_fixed (s : State) (l : Link) (captured : Nat) (t : Telegram) :
    (s.deliver l captured t).still.fixed = s.still.fixed := by
  rw [(s.deliver_delivered l captured t).still]
  rfl

theorem State.Event.fixed {s t : State} (h : s.Event t) : t.still.fixed = s.still.fixed := by
  cases h with
  | input i encoder => rw [State.inputChanged_still]; rfl
  | troubled l => exact (State.linkTrouble_fixed _ _).trans (s.setLink_fixed _ _)
  | damaged l => exact (State.linkTrouble_fixed _ _).trans (s.setLink_fixed _ _)
  | silent l => exact (State.linkTrouble_fixed _ _).trans (s.setLink_fixed _ _)
  | counted l check => exact s.countValid_fixed l
  | delivered l tel => exact (State.deliver_fixed _ _ _ _).trans (s.countValid_fixed l)
  | sent l a => exact (State.linkGood_fixed _ _).trans (s.setLink_fixed _ _)
  | deadline i => rfl
  | stalled => rfl
  | supervised => rw [State.raiseCause_still]; rfl
  | prewarned => rfl
  | cleared => rfl
  | ambered => rfl
  | recovered => rfl
  | control encoder => rw [State.controlExpiry_still]; rfl
  | checked i current => rfl
  | retried i => rfl
  | boundary => rfl

/-! ### The peer entries at an event -/

/-- What an accepted telegram or a missed deadline makes of an entry. -/
inductive PeerEntry.Moved (s : State) (p : PeerEntry) : PeerEntry → Prop
  | status (a : Arrival) (seq : Byte) (body : StatusBody) (accepted : p.accepts seq = true) :
      p.Moved s (p.takeStatus s.cfg.peerDeadline a seq body)
  | other (seq : Byte) (body : TelegramBody) (accepted : p.accepts seq = true) : p.Moved s (p.takeOther seq body)
  | missed (due : p.deadline.due s.clock = true) :
      p.Moved s (p.missDeadline s.clock s.cfg.peerDeadline s.cfg.lostThreshold)

theorem PeerEntry.Moved.congr {s s' : State} {p q : PeerEntry} (h : p.Moved s q) (hcfg : s.cfg = s'.cfg)
    (hclock : s.clock = s'.clock) : p.Moved s' q := by
  cases h with
  | status a seq body accepted => exact hcfg ▸ .status a seq body accepted
  | other seq body accepted => exact .other seq body accepted
  | missed due => exact hcfg ▸ hclock ▸ .missed (hclock ▸ due)

theorem State.Delivered.peers {s d : State} {l : Link} {captured : Nat} {t : Telegram}
    (h : s.Delivered l captured t d) :
    d.peers = s.peers ∨ ∃ (i : Fin 16) (p : PeerEntry), s.peers[i].Moved s p ∧ d.peers = s.peers.set i p := by
  cases h with
  | dropped => exact .inl rfl
  | own => exact .inl (congrArg Still.peers (s.raiseCause_still _))
  | handed => exact .inl (congrArg Still.peers (s.handOn_still _ _))
  | status _ _ i body _ accepted =>
    exact .inr ⟨i, _, .status _ _ _ accepted, congrArg Still.peers (s.acceptStatus_still i l captured t.seq body)⟩
  | taken _ _ i _ accepted => exact .inr ⟨i, _, .other _ _ accepted, congrArg Still.peers (State.handOn_still _ _ _)⟩

theorem State.linkTrouble_peers (s : State) (l : Link) : (s.linkTrouble l).peers = s.peers := by
  refine (congrArg Still.peers (s.linkTrouble_still l)).trans ?_
  cases l <;> rfl

theorem State.linkGood_peers (s : State) (l : Link) : (s.linkGood l).peers = s.peers := by
  refine (congrArg Still.peers (s.linkGood_still l)).trans ?_
  cases l <;> rfl

theorem State.countValid_peers (s : State) (l : Link) : (s.countValid l).peers = s.peers := by
  refine (congrArg Still.peers (s.countValid_still l)).trans ?_
  cases l <;> rfl

theorem State.countValid_cfg (s : State) (l : Link) : (s.countValid l).cfg = s.cfg :=
  congrArg Fixed.cfg (s.countValid_fixed l)

theorem State.countValid_clock (s : State) (l : Link) : (s.countValid l).clock = s.clock :=
  congrArg Fixed.clock (s.countValid_fixed l)

/-- An event leaves the peer table as it is, or moves one entry. -/
theorem State.Event.peers {s t : State} (h : s.Event t) :
    t.peers = s.peers ∨ ∃ (i : Fin 16) (p : PeerEntry), s.peers[i].Moved s p ∧ t.peers = s.peers.set i p := by
  cases h with
  | input i encoder => exact .inl (congrArg Still.peers (State.inputChanged_still _ _ _ _))
  | troubled l => exact .inl (by rw [State.linkTrouble_peers, State.endReception, State.setLink_peers])
  | damaged l => exact .inl (by rw [State.linkTrouble_peers, State.setLink_peers])
  | silent l => exact .inl (by rw [State.linkTrouble_peers, State.restartSilence, State.setLink_peers])
  | counted l check => exact .inl (s.countValid_peers l)
  | delivered l tel =>
    refine (State.deliver_delivered _ l _ tel).peers.imp (·.trans (s.countValid_peers l)) ?_
    rintro ⟨i, p, hp, hpeers⟩
    have hbefore : (s.counted l (Machine.crc (encodeTelegram tel))).peers = s.peers := s.countValid_peers l
    rw [hbefore] at hp hpeers
    exact ⟨i, p, hp.congr (s.countValid_cfg l) (s.countValid_clock l), hpeers⟩
  | sent l a => exact .inl (by rw [State.linkGood_peers, State.setLink_peers])
  | deadline i due => exact .inr ⟨i, _, .missed due, rfl⟩
  | stalled => exact .inl rfl
  | supervised => exact .inl (congrArg Still.peers (s.endStep.raiseCause_still _))
  | prewarned => exact .inl rfl
  | cleared => exact .inl rfl
  | ambered => exact .inl rfl
  | recovered => exact .inl rfl
  | control encoder => exact .inl (congrArg Still.peers (State.controlExpiry_still _ _))
  | checked i current => exact .inl rfl
  | retried i => exact .inl rfl
  | boundary => exact .inl rfl

/-! ### An entry moved is kept as section 1.3 keeps it -/

theorem PeerEntry.state_ne_vacant_of_accepts {p : PeerEntry} {seq : Byte} (h : p.accepts seq = true) :
    p.state ≠ .vacant := by
  intro hv
  simp [PeerEntry.accepts, hv] at h

theorem PeerEntry.takeStatus_fits {threshold : Nat} {p : PeerEntry} (hp : p.fits threshold)
    (hthreshold : 1 ≤ threshold) (hv : p.state ≠ .vacant) (deadline : Nat) (a : Arrival) (seq : Byte)
    (body : StatusBody) : (p.takeStatus deadline a seq body).fits threshold := by
  obtain ⟨hseven, htracked, hacquiring, -, hdeadline, -⟩ := hp
  unfold PeerEntry.takeStatus
  cases hstate : p.state with
  | vacant => exact absurd hstate hv
  | mismatch =>
    have : p.deadline.isRunning = false := by simpa [hstate] using hdeadline
    simpa [PeerEntry.recorded, PeerEntry.fits, hstate] using ⟨hseven, this⟩
  | tracked =>
    have := htracked hstate
    cases p.roleFits body <;> simp [PeerEntry.recorded, PeerEntry.fits, Timer.isRunning, hstate] <;> omega
  | acquiring =>
    have := hacquiring hstate
    cases p.roleFits body <;> cases p.lastSeq.map (· + 1) == some seq <;>
      simp [PeerEntry.recorded, PeerEntry.fits, Timer.isRunning, hstate] <;> omega
  | unknown => cases p.roleFits body <;> simp [PeerEntry.recorded, PeerEntry.fits, Timer.isRunning, hseven]
  | lost => cases p.roleFits body <;> simp [PeerEntry.recorded, PeerEntry.fits, Timer.isRunning, hseven]

/-- A telegram that is no STATUS sets the last number where one is held, or nothing. -/
theorem PeerEntry.takeOther_cases (p : PeerEntry) (seq : Byte) (body : TelegramBody) :
    p.takeOther seq body = p ∨
      (p.state = .acquiring ∨ p.state = .tracked ∨ p.state = .mismatch) ∧
        p.takeOther seq body = { p with lastSeq := some seq } := by
  unfold PeerEntry.takeOther
  split <;> simp_all

theorem PeerEntry.takeOther_fits {threshold : Nat} {p : PeerEntry} (hp : p.fits threshold) (seq : Byte)
    (body : TelegramBody) : (p.takeOther seq body).fits threshold := by
  rcases p.takeOther_cases seq body with h | ⟨hstate, h⟩ <;> rw [h]
  · exact hp
  · obtain ⟨hseven, htracked, hacquiring, -, hdeadline, hreport⟩ := hp
    exact ⟨hseven, htracked, hacquiring, ⟨fun _ => hstate, fun _ => rfl⟩, hdeadline, hreport⟩

theorem PeerEntry.missDeadline_fits {threshold : Nat} {p : PeerEntry} (hp : p.fits threshold) (now : Time)
    (deadline : Nat) : (p.missDeadline now deadline threshold).fits threshold := by
  unfold PeerEntry.missDeadline
  split
  next hstate =>
    obtain ⟨-, -, -, hseq, -, hreport⟩ := hp
    dsimp only
    split
    · simp [PeerEntry.fits, Timer.isRunning]
    next hbelow =>
      have hsome : p.lastSeq.isSome = true := hseq.mpr (.inr (.inl hstate))
      have hcopy : p.report.isSome = true := hreport (.inr (.inl hstate))
      simp [PeerEntry.fits, Timer.isRunning, hstate, hsome, hcopy]
      omega
  · simp [PeerEntry.fits, Timer.isRunning]
  · exact hp

theorem PeerEntry.Moved.fits {s : State} {p q : PeerEntry} (h : p.Moved s q) (hthreshold : 1 ≤ s.cfg.lostThreshold)
    (hp : p.fits s.cfg.lostThreshold) : q.fits s.cfg.lostThreshold := by
  cases h with
  | status a seq body accepted =>
    exact PeerEntry.takeStatus_fits hp hthreshold (PeerEntry.state_ne_vacant_of_accepts accepted) _ _ _ _
  | other seq body => exact PeerEntry.takeOther_fits hp seq body
  | missed => exact PeerEntry.missDeadline_fits hp _ _

/-- A VACANT slot is kept under every threshold. -/
theorem PeerEntry.fits_of_vacant {n m : Nat} {p : PeerEntry} (h : p.state = .vacant) (hp : p.fits n) : p.fits m := by
  simp_all [PeerEntry.fits]

/-! ### The entry into RUN -/

/-- The entry into RUN before its causes, its key, its reactions and its STATUS: every block filled by its own rule. -/
def State.entering (s : State) (encoder : Option Word16) (ambient : Byte) : State :=
  ((((({ s with stage := .running, loader := {} } : State).takeInputs).fillPeers.freeLamps ambient).startRole
    encoder).restartSilence .a).restartSilence .b

/-- The state at the entry into RUN from which the reactions go on: causes raised and an active HAND_KEY taken. -/
def State.entered (s : State) (encoder : Option Word16) (ambient : Byte) : State :=
  ((s.entering encoder ambient).raiseCauses ((s.entering encoder ambient).startCauses encoder)).startKey

theorem State.enterRun_eq (s : State) (encoder : Option Word16) (ambient : Byte) :
    s.enterRun encoder ambient = ((s.entered encoder ambient).react false).formStatus := rfl

@[simp] theorem State.startKey_still (s : State) : s.startKey.still = s.still := by
  unfold State.startKey
  split <;> simp

/-- The level controller at the entry into RUN: a hoist's takes the reading, any other's stops its control period. -/
def Level.atStart (v : LevelStill) (role : Role) (encoder : Option Word16) : LevelStill :=
  if role = .hoist then
    { v with height := (encoder.map (·.toNat)).getD v.height, expiryHeight := (encoder.map (·.toNat)).getD v.height }
  else { v with timer := .stopped, line := none }

theorem State.startRole_still (s : State) (encoder : Option Word16) :
    (s.startRole encoder).still =
      { s.still with level := Level.atStart s.level.still s.role encoder } := by
  unfold State.startRole State.rebuild
  cases hrole : s.role <;> cases encoder <;> rfl

theorem State.entering_still (s : State) (encoder : Option Word16) (ambient : Byte) :
    (s.entering encoder ambient).still = { s.still with
      stage := .running
      loader := {}
      inputs := Vector.ofFn fun i : Fin 16 => { s.inputs[i] with level := s.inputs[i].candidate }
      peers := Vector.ofFn fun i : Fin 16 => s.cfg.peers[i].entry
      phase := some (s.clock.toNat % s.cfg.flashPeriod)
      ambientTimer := .running s.clock 500
      linkA := { s.linkA.still with silence := .running s.clock s.cfg.linkSilence }
      linkB := { s.linkB.still with silence := .running s.clock s.cfg.linkSilence }
      level := Level.atStart s.level.still s.role encoder } := by
  have h := State.startRole_still
    ((({ s with stage := .running, loader := {} } : State).takeInputs).fillPeers.freeLamps ambient) encoder
  have hsilence (q : State) : ((q.restartSilence .a).restartSilence .b).still = { q.still with
      linkA := { q.still.linkA with silence := .running q.still.clock q.still.cfg.linkSilence }
      linkB := { q.still.linkB with silence := .running q.still.clock q.still.cfg.linkSilence } } := rfl
  rw [State.entering, hsilence, h]
  rfl

theorem State.enterRun_still (s : State) (encoder : Option Word16) (ambient : Byte) :
    (s.enterRun encoder ambient).still = (s.entering encoder ambient).still := by
  simp [State.enterRun_eq, State.entered]

/-! ### The peer table is kept -/

/-- The peer table's laws read the untouched part alone. -/
theorem State.peersFit_of_still {s t : State} (h : t.still = s.still) (hs : s.peersFit) : t.peersFit := by
  have hstage : t.stage = s.stage := congrArg Still.stage h
  have hloader : t.loader = s.loader := congrArg Still.loader h
  have hcfg : t.cfg = s.cfg := congrArg Still.cfg h
  have hpeers : t.peers = s.peers := congrArg Still.peers h
  simpa [State.peersFit, State.configured, State.isRunning, hstage, hloader, hcfg, hpeers] using hs

theorem PeerConfig.entry_fits (c : PeerConfig) (threshold : Nat) : c.entry.fits threshold := by
  unfold PeerConfig.entry
  split <;> simp [PeerEntry.fits, Timer.isRunning]

theorem State.lostThreshold_of_load {image : List Byte} {c : StationConfig} (h : loadImage image = some c) :
    2 ≤ c.lostThreshold ∧ c.lostThreshold ≤ 7 := by
  unfold loadImage at h
  split at h
  · obtain ⟨role, -, rfl⟩ := Option.map_eq_some_iff.mp h
    show 2 ≤ clampOrDefault 3 2 7 _ ∧ clampOrDefault 3 2 7 _ ≤ 7
    unfold clampOrDefault
    split
    · omega
    · exact clampNat_bounds _ (by omega)
  · cases h

theorem State.reading_notRunning {s : State} (h : s.reading = true) : s.isRunning = false := by
  simp only [State.reading, Bool.and_eq_true, beq_iff_eq] at h
  simp [State.isRunning, h.1]

theorem State.Event.keeps_peersFit {s t : State} (h : s.Event t) (running : s.isRunning = true) (hs : s.peersFit) :
    t.peersFit := by
  obtain ⟨hthreshold, -, hfits⟩ := hs
  have hconfigured : 2 ≤ s.cfg.lostThreshold ∧ s.cfg.lostThreshold ≤ 7 := hthreshold (by simp [State.configured, running])
  have hcfg : t.cfg = s.cfg := congrArg Fixed.cfg h.fixed
  have hstage : t.stage = s.stage := congrArg Fixed.stage h.fixed
  have hrunning : t.isRunning = true := by rwa [State.isRunning, hstage]
  refine ⟨fun _ => hcfg ▸ hconfigured, fun hoff => absurd (hrunning.symm.trans hoff) (by decide), fun i => ?_⟩
  rw [hcfg]
  rcases h.peers with hpeers | ⟨j, p, hmoved, hpeers⟩
  · rw [hpeers]
    exact hfits i
  · simp only [hpeers, Fin.getElem_fin, Vector.getElem_set]
    split
    · exact hmoved.fits (by omega) (hfits j)
    · exact hfits i

theorem State.startUp_peersFit (s : State) (strap1 strap2 : Bool) : (s.startUp strap1 strap2).peersFit := by
  simp [State.peersFit, State.startUp, State.inReset, State.configured, State.isRunning, Timer.isRunning,
    PeerEntry.fits]

theorem State.inReset_peersFit (s : State) : s.inReset.peersFit := by
  simp [State.peersFit, State.inReset, State.configured, State.isRunning, Timer.isRunning, PeerEntry.fits]

theorem State.acceptImage_peersFit {s : State} {image : List Byte} {c : StationConfig} (reading : s.reading = true)
    (accepted : loadImage image = some c) (hs : s.peersFit) : (s.acceptImage c).peersFit := by
  have hoff := State.reading_notRunning reading
  obtain ⟨-, hvacant, hfits⟩ := hs
  exact ⟨fun _ => State.lostThreshold_of_load accepted, fun _ => hvacant hoff,
    fun i => PeerEntry.fits_of_vacant (hvacant hoff i) (hfits i)⟩

theorem State.failLoad_peersFit {s : State} (reading : s.reading = true) (hs : s.peersFit) : s.failLoad.peersFit := by
  obtain ⟨-, hvacant, hfits⟩ := hs
  exact ⟨by simp [State.configured, State.failLoad, State.isRunning, Timer.isRunning],
    fun _ => hvacant (State.reading_notRunning reading), hfits⟩

theorem Timer.isRunning_of_due {t : Timer} {now : Time} (h : t.due now = true) : t.isRunning = true := by
  cases t with
  | stopped => cases h
  | running start interval => rfl

theorem State.enterRun_peersFit {s : State} (encoder : Option Word16) (ambient : Byte)
    (due : s.loader.start.due s.clock = true) (hs : s.peersFit) : (s.enterRun encoder ambient).peersFit := by
  refine State.peersFit_of_still (s.enterRun_still encoder ambient) ?_
  have hstill := s.entering_still encoder ambient
  have hstage : (s.entering encoder ambient).stage = .running := congrArg Still.stage hstill
  have hcfg : (s.entering encoder ambient).cfg = s.cfg := congrArg Still.cfg hstill
  have hpeers : (s.entering encoder ambient).peers = Vector.ofFn fun i : Fin 16 => s.cfg.peers[i].entry :=
    congrArg Still.peers hstill
  refine ⟨fun _ => hcfg ▸ hs.1 (by simp [State.configured, Timer.isRunning_of_due due]),
    fun hoff => by simp [State.isRunning, hstage] at hoff, fun i => ?_⟩
  simpa [hpeers] using PeerConfig.entry_fits _ _

theorem State.Outcome.keeps_peersFit {s t : State} {cmd : Instr} (hs : s.peersFit) (h : s.Outcome cmd t) : t.peersFit := by
  cases h with
  | same => exact hs
  | started strap1 strap2 => exact s.startUp_peersFit strap1 strap2
  | reset => exact s.inReset_peersFit
  | refused check reading => exact State.failLoad_peersFit (s := { s with crc := check }) reading hs
  | loaded check reading image c accepted =>
    exact State.acceptImage_peersFit (s := { s with crc := check }) reading accepted hs
  | entered encoder ambient starting due => exact State.enterRun_peersFit encoder ambient due hs
  | line i x => exact hs
  | heard l => cases l <;> exact hs
  | begun l k tel => cases l <;> exact hs
  | outbid l a => cases l <;> exact hs
  | beat f => exact hs
  | status f => exact State.peersFit_of_still (State.formStatus_still _) hs
  | sampled a => exact hs
  | patterned => exact hs
  | idled => exact hs
  | event check after running h => exact State.peersFit_of_still (State.conclude_still _ _) (h.keeps_peersFit running hs)

theorem State.tick_peersFit {s : State} (hs : s.peersFit) : s.tick.peersFit := by
  unfold State.tick
  split <;> exact hs

/-- Settles O53: an event moves at most one entry, which stays as section 1.3 keeps it (`PeerEntry.Moved.fits`), and the
reactions touch none. -/
theorem stepKeepsPeers : Obligations.StepKeepsPeers := by
  intro s t hs h
  exact State.step_keeps (P := State.peersFit) (fun _ _ h => h) (fun _ => State.tick_peersFit) (fun _ _ _ => State.Outcome.keeps_peersFit) hs h

end Sys2Proof.Machine

/-!
PROOFS. What the reactions of an event leave alone besides the untouched part: what no move of the sequencer touches
(`State.unmoved`), and how far the forming of telegrams changes a link (`LinkController.Filled`).
-/

namespace Sys2Proof.Machine

/-! ### What no move of the sequencer touches -/

/-- What neither a move of the sequencer nor the end of a hand move touches. -/
structure Unmoved where
  still : Still
  zoneFlag : Bool
  clearance : Clearance
  demand : DemandRecord
  barrier : BarrierState
  recovering : Bool
  recoveryTimer : Timer
  lamps : Lamps
  period : Timer
  gap : Timer
  changePending : Bool

/-- The part of a state that no move of the sequencer touches. -/
def State.unmoved (s : State) : Unmoved :=
  { still := s.still, zoneFlag := s.zoneFlag, clearance := s.clearance, demand := s.demand, barrier := s.barrier,
    recovering := s.signal.recovering, recoveryTimer := s.signal.recoveryTimer, lamps := s.lamps,
    period := s.former.period, gap := s.former.gap, changePending := s.former.changePending }

@[simp] theorem State.formTelegram_unmoved (s : State) (k : SlotKind) (b : TelegramBody) :
    (s.formTelegram k b).unmoved = s.unmoved :=
  congrArg (fun x => { s.unmoved with still := x }) (s.formTelegram_still k b)

@[simp] theorem State.formHalt_unmoved (s : State) (r : HaltReason) : (s.formHalt r).unmoved = s.unmoved := by
  unfold State.formHalt
  split <;> simp

@[simp] theorem State.leaveStep_unmoved (s : State) (t : SupervisionTimer) : (s.leaveStep t).unmoved = s.unmoved := rfl

@[simp] theorem State.endStep_unmoved (s : State) : s.endStep.unmoved = s.unmoved := rfl

@[simp] theorem State.completeStep_unmoved (s : State) (st : Step) : (s.completeStep st).unmoved = s.unmoved := rfl

@[simp] theorem State.beginStep_unmoved (s : State) (st : Step) (b : Bool) :
    (s.beginStep st b).unmoved = s.unmoved := by
  unfold State.beginStep
  split <;> rfl

@[simp] theorem State.stopMotion_unmoved (s : State) : s.stopMotion.unmoved = s.unmoved := by
  unfold State.stopMotion State.interruptStep
  split <;> rfl

@[simp] theorem State.addOrigin_unmoved (s : State) (n : Nat) (r : HaltReason) :
    (s.addOrigin n r).unmoved = s.unmoved := by
  unfold State.addOrigin
  split
  · rfl
  · rw [State.stopMotion_unmoved]
    rfl

@[simp] theorem State.raiseCause_unmoved (s : State) (c : LocalCause) : (s.raiseCause c).unmoved = s.unmoved := by
  rcases s.raiseCause_cases c with ⟨-, h⟩ | ⟨-, h⟩ <;> rw [h]
  rw [State.formHalt_unmoved, State.addOrigin_unmoved]
  rfl

@[simp] theorem State.draw_unmoved (s : State) : s.draw.2.unmoved = s.unmoved := rfl

/-- What drawing a choice and raising one cause keep, raising several keeps. -/
theorem State.raiseCauses_keeps {P : State → Prop} (cs : List LocalCause) (draws : ∀ s, P s → P s.draw.2)
    (raises : ∀ s, ∀ c ∈ cs, P s → P (s.raiseCause c)) (s : State) (h : P s) : P (s.raiseCauses cs) := by
  have folds (ds : List LocalCause) (hds : ∀ c ∈ ds, c ∈ cs) (t : State) (ht : P t) :
      P (ds.foldl State.raiseCause t) := by
    induction ds generalizing t with
    | nil => exact ht
    | cons d ds ih =>
      exact ih (fun c hc => hds c (.tail d hc)) _ (raises t d (hds d (.head ds)) ht)
  unfold State.raiseCauses
  split
  · exact h
  · exact raises s _ (by simp) h
  · refine folds _ (fun c hc => ?_) _ (draws s h)
    split at hc <;> simpa using hc

@[simp] theorem State.raiseCauses_unmoved (s : State) (cs : List LocalCause) :
    (s.raiseCauses cs).unmoved = s.unmoved :=
  State.raiseCauses_keeps (P := fun t => t.unmoved = s.unmoved) cs (fun _ h => h)
    (fun _ _ _ h => by rwa [State.raiseCause_unmoved]) s rfl

@[simp] theorem State.discardInterrupted_unmoved (s : State) : s.discardInterrupted.unmoved = s.unmoved := by
  unfold State.discardInterrupted
  split <;> rfl

@[simp] theorem State.enterHand_unmoved (s : State) : s.enterHand.unmoved = s.unmoved :=
  s.discardInterrupted_unmoved

@[simp] theorem State.grantHand_unmoved (s : State) : s.grantHand.unmoved = s.unmoved := by
  unfold State.grantHand
  split <;> simp

@[simp] theorem State.followHandshake_unmoved (s : State) : s.followHandshake.unmoved = s.unmoved := rfl

@[simp] theorem State.settle_unmoved (s : State) : s.settle.unmoved = s.unmoved := by
  unfold State.settle
  dsimp only
  split <;> simp

/-- The causes that a travel step in progress can meet (R82, R87, R88). -/
def LocalCause.ofTravel (c : LocalCause) : Prop := c = .overtravel ∨ c = .peerLost ∨ c = .peerHalt

theorem State.travelCauses_ofTravel {s : State} {c : LocalCause} (h : c ∈ s.travelCauses) : c.ofTravel := by
  unfold State.travelCauses at h
  split at h
  · simp only [List.mem_append] at h
    rcases h with (h | h) | h <;> split at h <;> simp_all [LocalCause.ofTravel]
  · cases h

/-- What beginning, ending and completing a step and raising causes keep, every move of the sequencer keeps. -/
theorem State.nextMove_keeps {P : State → Prop} {s : State} {held b : Bool} {r : Bool × State}
    (begins : ∀ s st b, P s → P (s.beginStep st b)) (ends : ∀ s, P s → P s.endStep)
    (completes : ∀ s st, P s → P (s.completeStep st)) (draws : ∀ s, P s → P s.draw.2)
    (raises : ∀ s c, c.ofTravel → P s → P (s.raiseCause c)) (hs : P s) (h : s.nextMove held b = some r) : P r.2 := by
  have causes (t : State) (ht : P t) : P (t.raiseCauses s.travelCauses) :=
    State.raiseCauses_keeps _ draws (fun t c hc => raises t c (State.travelCauses_ofTravel hc)) t ht
  unfold State.nextMove at h
  split at h
  · rcases State.endMove_cases h with ⟨-, rfl⟩ | ⟨-, -, -, rfl | rfl⟩ | ⟨-, -, -, rfl⟩ | ⟨-, -, -, rfl⟩ |
      ⟨-, -, -, -, rfl⟩
    · exact begins _ { kind := .green, dir := .inverse } false (ends _ hs)
    · exact completes _ _ (draws _ hs)
    · exact causes _ (draws _ hs)
    · exact causes _ hs
    · exact completes _ _ hs
    · exact ends _ hs
  · obtain ⟨st, -, -, -, -, rfl⟩ := State.beginMove_cases h
    exact begins _ _ _ hs

@[simp] theorem State.advance_unmoved (held : Bool) (n : Nat) (b : Bool) (s : State) :
    (State.advance held n b s).unmoved = s.unmoved := by
  refine State.advance_keeps (P := fun t => t.unmoved = s.unmoved) (fun _ h => by simpa using h)
    (fun _ _ _ h hm => State.nextMove_keeps (P := fun t => t.unmoved = s.unmoved) ?_ ?_ ?_ ?_ ?_ h hm) n b s rfl
  all_goals intros; simpa

@[simp] theorem State.endHandMove_unmoved (s : State) : s.endHandMove.unmoved = s.unmoved := by
  unfold State.endHandMove
  split <;> rfl

@[simp] theorem State.followHandMove_unmoved (s : State) : s.followHandMove.unmoved = s.unmoved := by
  unfold State.followHandMove
  split <;> simp

/-! ### The reactions before the sequencer -/

/-- The state as the reactions that come before the sequencer leave it. -/
def State.prepared (s : State) : State :=
  s.followReference.followPrewarn.followEvidence.followStall.followRecovery

/-- The state as the sequencer's moves of an event leave it. -/
@[irreducible] def State.sequenced (held : Bool) (s : State) : State :=
  State.advance held advanceBound false s.prepared

theorem State.sequenced_eq (held : Bool) (s : State) :
    s.sequenced held = State.advance held advanceBound false s.prepared := by
  unfold State.sequenced
  rfl

theorem State.react_eq (held : Bool) (s : State) : s.react held = (s.sequenced held).followHandMove.followLamps := by
  rw [State.sequenced_eq]
  rfl

/-- What the reactions before the sequencer do not touch: they bring the flash reference, the prewarn hold, the evidence,
the stall supervision and, at the end of recovery, the recovery state and the journal up to date. -/
structure Unprepared where
  still : Still
  zoneFlag : Bool
  seq : Sequencer
  amberTimer : Timer
  hoist : HoistState
  level : Level
  halt : HaltRecord
  hand : HandPanel
  outputs : Vector Output 12
  linkA : LinkController
  linkB : LinkController
  former : Former
  drawn : Nat

/-- The part of a state that the reactions before the sequencer do not touch. -/
def State.unprepared (s : State) : Unprepared :=
  { still := s.still, zoneFlag := s.zoneFlag, seq := { s.seq with journal := [] }, amberTimer := s.signal.amberTimer,
    hoist := s.hoist, level := s.level, halt := s.halt, hand := s.hand, outputs := s.lamps.outputs, linkA := s.linkA,
    linkB := s.linkB, former := s.former, drawn := s.drawn }

@[simp] theorem State.followReference_unprepared (s : State) : s.followReference.unprepared = s.unprepared := by
  unfold State.followReference
  dsimp only
  split <;> rfl

@[simp] theorem State.followPrewarn_unprepared (s : State) : s.followPrewarn.unprepared = s.unprepared := by
  unfold State.followPrewarn
  split
  · split
    · split <;> rfl
    · rfl
  · rfl

@[simp] theorem State.followEvidence_unprepared (s : State) : s.followEvidence.unprepared = s.unprepared := by
  unfold State.followEvidence
  split
  · split <;> rfl
  · rfl

@[simp] theorem State.followStall_unprepared (s : State) : s.followStall.unprepared = s.unprepared := by
  unfold State.followStall
  split
  · split <;> rfl
  · rfl

@[simp] theorem State.followRecovery_unprepared (s : State) : s.followRecovery.unprepared = s.unprepared := by
  unfold State.followRecovery
  split <;> rfl

theorem State.prepared_unprepared (s : State) : s.prepared.unprepared = s.unprepared := by
  simp [State.prepared]

@[simp] theorem State.prepared_still (s : State) : s.prepared.still = s.still :=
  congrArg Unprepared.still s.prepared_unprepared
@[simp] theorem State.prepared_zoneFlag (s : State) : s.prepared.zoneFlag = s.zoneFlag :=
  congrArg Unprepared.zoneFlag s.prepared_unprepared
@[simp] theorem State.prepared_step (s : State) : s.prepared.seq.step = s.seq.step :=
  congrArg (·.seq.step) s.prepared_unprepared
@[simp] theorem State.prepared_stopping (s : State) : s.prepared.seq.stopping = s.seq.stopping :=
  congrArg (·.seq.stopping) s.prepared_unprepared
@[simp] theorem State.prepared_interrupted (s : State) : s.prepared.seq.interrupted = s.seq.interrupted :=
  congrArg (·.seq.interrupted) s.prepared_unprepared
@[simp] theorem State.prepared_supervision (s : State) : s.prepared.seq.supervision = s.seq.supervision :=
  congrArg (·.seq.supervision) s.prepared_unprepared
@[simp] theorem State.prepared_amberTimer (s : State) : s.prepared.signal.amberTimer = s.signal.amberTimer :=
  congrArg Unprepared.amberTimer s.prepared_unprepared
@[simp] theorem State.prepared_hoist (s : State) : s.prepared.hoist = s.hoist :=
  congrArg Unprepared.hoist s.prepared_unprepared
@[simp] theorem State.prepared_level (s : State) : s.prepared.level = s.level :=
  congrArg Unprepared.level s.prepared_unprepared
@[simp] theorem State.prepared_halt (s : State) : s.prepared.halt = s.halt :=
  congrArg Unprepared.halt s.prepared_unprepared
@[simp] theorem State.prepared_hand (s : State) : s.prepared.hand = s.hand :=
  congrArg Unprepared.hand s.prepared_unprepared
@[simp] theorem State.prepared_outputs (s : State) : s.prepared.lamps.outputs = s.lamps.outputs :=
  congrArg Unprepared.outputs s.prepared_unprepared
@[simp] theorem State.prepared_linkA (s : State) : s.prepared.linkA = s.linkA :=
  congrArg Unprepared.linkA s.prepared_unprepared
@[simp] theorem State.prepared_linkB (s : State) : s.prepared.linkB = s.linkB :=
  congrArg Unprepared.linkB s.prepared_unprepared
@[simp] theorem State.prepared_former (s : State) : s.prepared.former = s.former :=
  congrArg Unprepared.former s.prepared_unprepared

/-- Recovery stays as it is, or ends (R68). -/
theorem State.followRecovery_cases (s : State) :
    s.followRecovery = s ∨ s.inRecovery = true ∧ s.followRecovery = s.endRecovery := by
  unfold State.followRecovery
  split
  next h =>
    simp only [Bool.and_eq_true] at h
    exact .inr ⟨h.1.1, rfl⟩
  next => exact .inl rfl

/-! ### What forms no telegram -/

/-- Both links and the STATUS former with its sequence counter: what the forming of a telegram changes. -/
structure Mail where
  linkA : LinkController
  linkB : LinkController
  former : Former

/-- The links and the former of a state. -/
def State.mail (s : State) : Mail := { linkA := s.linkA, linkB := s.linkB, former := s.former }

@[simp] theorem State.beginStep_mail (s : State) (st : Step) (b : Bool) : (s.beginStep st b).mail = s.mail := by
  unfold State.beginStep
  split <;> rfl

@[simp] theorem State.stopMotion_mail (s : State) : s.stopMotion.mail = s.mail := by
  unfold State.stopMotion State.interruptStep
  split <;> rfl

@[simp] theorem State.addOrigin_mail (s : State) (n : Nat) (r : HaltReason) : (s.addOrigin n r).mail = s.mail := by
  unfold State.addOrigin
  split
  · rfl
  · rw [State.stopMotion_mail]
    rfl

@[simp] theorem State.discardInterrupted_mail (s : State) : s.discardInterrupted.mail = s.mail := by
  unfold State.discardInterrupted
  split <;> rfl

@[simp] theorem State.enterHand_mail (s : State) : s.enterHand.mail = s.mail := s.discardInterrupted_mail

@[simp] theorem State.grantHand_mail (s : State) : s.grantHand.mail = s.mail := by
  unfold State.grantHand
  split <;> simp

@[simp] theorem State.followHandshake_mail (s : State) : s.followHandshake.mail = s.mail := rfl

@[simp] theorem State.settle_mail (s : State) : s.settle.mail = s.mail := by
  unfold State.settle
  dsimp only
  split <;> simp

@[simp] theorem State.endHandMove_mail (s : State) : s.endHandMove.mail = s.mail := by
  unfold State.endHandMove
  split <;> rfl

@[simp] theorem State.followHandMove_mail (s : State) : s.followHandMove.mail = s.mail := by
  unfold State.followHandMove
  split <;> simp

@[simp] theorem State.prepared_mail (s : State) : s.prepared.mail = s.mail :=
  by
  simp [State.mail]

/-! ### How far the forming of telegrams changes a link -/

/-- A controller changed by the forming of telegrams of some kinds alone: health and state stay, an attempt goes on, a
FAILED link is as it was, and so are the slots of the other kinds (R155). -/
def LinkController.Filled (kinds : List SlotKind) (c c' : LinkController) : Prop :=
  c'.still = c.still ∧ c'.attempt.isSome = c.attempt.isSome ∧ (c.failed = true → c' = c) ∧
    ∀ k, k ∉ kinds → c'.slot k = c.slot k

/-- Both links of a station changed by the forming of telegrams of some kinds alone. -/
def State.Filled (kinds : List SlotKind) (s t : State) : Prop :=
  s.linkA.Filled kinds t.linkA ∧ s.linkB.Filled kinds t.linkB

theorem LinkController.Filled.refl (kinds : List SlotKind) (c : LinkController) : c.Filled kinds c :=
  ⟨rfl, rfl, fun _ => rfl, fun _ _ => rfl⟩

theorem LinkController.failed_of_still {c c' : LinkController} (h : c'.still = c.still) : c'.failed = c.failed := by
  have hstate : c'.state = c.state := congrArg LinkStill.state h
  rw [LinkController.failed, LinkController.failed, hstate]

theorem LinkController.Filled.trans {kinds : List SlotKind} {c d e : LinkController} (hcd : c.Filled kinds d)
    (hde : d.Filled kinds e) : c.Filled kinds e := by
  obtain ⟨hstill, hattempt, hfailed, hslots⟩ := hcd
  obtain ⟨hstill', hattempt', hfailed', hslots'⟩ := hde
  exact ⟨hstill'.trans hstill, hattempt'.trans hattempt,
    fun h => (hfailed' ((LinkController.failed_of_still hstill).trans h)).trans (hfailed h),
    fun k hk => (hslots' k hk).trans (hslots k hk)⟩

theorem LinkController.Filled.mono {kinds kinds' : List SlotKind} {c c' : LinkController} (h : c.Filled kinds c')
    (hsub : kinds ⊆ kinds') : c.Filled kinds' c' :=
  ⟨h.1, h.2.1, h.2.2.1, fun k hk => h.2.2.2 k fun hmem => hk (hsub hmem)⟩

theorem LinkController.fill_filled (c : LinkController) (k : SlotKind) (t : Telegram) : c.Filled [k] (c.fill k t) := by
  refine ⟨c.fill_still k t, ?_, fun h => by simp [LinkController.fill, h], fun j hj => ?_⟩
  · unfold LinkController.fill
    split
    · rfl
    · cases k <;> simp [LinkController.setSlot]
  · rw [LinkController.slot_fill, if_neg (fun h => hj (by simp [h.2]))]

theorem State.Filled.refl (kinds : List SlotKind) (s : State) : s.Filled kinds s := ⟨.refl _ _, .refl _ _⟩

theorem State.Filled.trans {kinds : List SlotKind} {s t u : State} (hst : s.Filled kinds t) (htu : t.Filled kinds u) :
    s.Filled kinds u :=
  ⟨hst.1.trans htu.1, hst.2.trans htu.2⟩

theorem State.Filled.mono {kinds kinds' : List SlotKind} {s t : State} (h : s.Filled kinds t) (hsub : kinds ⊆ kinds') :
    s.Filled kinds' t :=
  ⟨h.1.mono hsub, h.2.mono hsub⟩

/-- Links that are the same are changed by no telegram. -/
theorem State.Filled.of_eq {kinds : List SlotKind} {s t : State} (ha : t.linkA = s.linkA) (hb : t.linkB = s.linkB) :
    s.Filled kinds t :=
  ⟨ha ▸ .refl _ _, hb ▸ .refl _ _⟩

theorem State.Filled.of_mail {kinds : List SlotKind} {s t : State} (h : t.mail = s.mail) : s.Filled kinds t :=
  .of_eq (congrArg Mail.linkA h) (congrArg Mail.linkB h)

theorem State.Filled.link {kinds : List SlotKind} {s t : State} (h : s.Filled kinds t) (l : Link) :
    (s.link l).Filled kinds (t.link l) := by
  cases l
  · exact h.1
  · exact h.2

theorem State.Filled.bothFailed {kinds : List SlotKind} {s t : State} (h : s.Filled kinds t) :
    t.bothFailed = s.bothFailed := by
  rw [State.bothFailed, State.bothFailed, LinkController.failed_of_still h.1.1, LinkController.failed_of_still h.2.1]

theorem State.formTelegram_filled (s : State) (k : SlotKind) (b : TelegramBody) : s.Filled [k] (s.formTelegram k b) :=
  ⟨LinkController.fill_filled _ _ _, LinkController.fill_filled _ _ _⟩

theorem State.formHalt_filled (s : State) (r : HaltReason) : s.Filled [.haltcmd] (s.formHalt r) := by
  unfold State.formHalt
  split
  · exact .refl _ _
  · exact s.formTelegram_filled _ _

theorem State.formResume_filled (s : State) : s.Filled [.haltcmd] s.formResume := by
  unfold State.formResume
  split
  · exact .refl _ _
  · exact s.formTelegram_filled _ _

/-- The station with a cause present that was not, and its own number among the origins, before its HALT is formed. -/
def State.caused (s : State) (c : LocalCause) : State :=
  ({ s with halt := s.halt.put c } : State).addOrigin s.own (.cause c)

theorem State.raiseCause_of_absent {s : State} {c : LocalCause} (h : s.halt.has c = false) :
    s.raiseCause c = (s.caused c).formHalt (.cause c) := by
  rcases s.raiseCause_cases c with ⟨hp, -⟩ | ⟨-, hr⟩
  · exact absurd (hp.symm.trans h) (by decide)
  · exact hr

theorem State.raiseCause_of_present {s : State} {c : LocalCause} (h : s.halt.has c = true) : s.raiseCause c = s :=
  if_pos h

@[simp] theorem State.caused_mail (s : State) (c : LocalCause) : (s.caused c).mail = s.mail :=
  (State.addOrigin_mail _ _ _).trans rfl

theorem State.raiseCause_filled (s : State) (c : LocalCause) : s.Filled [.haltcmd] (s.raiseCause c) := by
  cases hc : s.halt.has c with
  | true =>
    rw [State.raiseCause_of_present hc]
    exact .refl _ _
  | false =>
    rw [State.raiseCause_of_absent hc]
    exact (State.Filled.of_mail (s.caused_mail c)).trans ((s.caused c).formHalt_filled _)

theorem State.raiseCauses_filled (s : State) (cs : List LocalCause) : s.Filled [.haltcmd] (s.raiseCauses cs) :=
  State.raiseCauses_keeps (P := fun t => s.Filled [.haltcmd] t) cs (fun _ h => h)
    (fun t c _ h => h.trans (t.raiseCause_filled c)) s (.refl _ _)

theorem State.advance_filled (held : Bool) (n : Nat) (b : Bool) (s : State) :
    s.Filled [.haltcmd] (State.advance held n b s) := by
  refine State.advance_keeps (P := fun t => s.Filled [.haltcmd] t)
    (fun t h => h.trans (.of_mail t.settle_mail)) (fun _ _ _ h hm => ?_) n b s (.refl _ _)
  exact State.nextMove_keeps (P := fun t => s.Filled [.haltcmd] t) (fun t st b h => h.trans (.of_mail (t.beginStep_mail st b)))
    (fun t h => h) (fun t st h => h) (fun t h => h) (fun t c _ h => h.trans (t.raiseCause_filled c)) h hm

/-- The reactions of an event form HALTs alone. -/
theorem State.react_filled (held : Bool) (s : State) : s.Filled [.haltcmd] (s.react held) := by
  have hprepared : s.Filled [.haltcmd] s.prepared := .of_mail s.prepared_mail
  have hsequenced : s.Filled [.haltcmd] (s.sequenced held) := by
    rw [State.sequenced_eq]
    exact hprepared.trans (State.advance_filled held _ false _)
  rw [State.react_eq]
  exact hsequenced.trans (.of_mail (s.sequenced held).followHandMove_mail)

theorem State.formStatus_filled (s : State) : s.Filled [.status] s.formStatus := by
  unfold State.formStatus
  split
  · exact .refl _ _
  · exact s.formTelegram_filled _ _

/-- A note of a change forms at most a STATUS. -/
theorem State.noteChange_filled (s : State) (b : Bool) : s.Filled [.status] (s.noteChange b) := by
  rcases s.noteChange_cases b with h | ⟨-, h⟩ <;> rw [h]
  · exact .of_eq rfl rfl
  · exact s.formStatus_filled

/-- The end of an event forms HALTs and a STATUS alone. -/
theorem State.conclude_filled (before after : State) :
    after.Filled [.haltcmd, .status] (State.conclude before after) := by
  have hreact := (after.react_filled (before.reversalStopped after)).mono
    (show [SlotKind.haltcmd] ⊆ [.haltcmd, .status] by simp)
  rcases State.conclude_cases before after with h | h <;> rw [h]
  · exact hreact
  · exact hreact.trans ((State.noteChange_filled _ _).mono (by simp))

end Sys2Proof.Machine

/-!
PROOFS. What each operation of an event does to the links, and the links that every step keeps (section 10.5).
-/

namespace Sys2Proof.Machine

/-! ### What the operations of an event form -/

theorem State.adopt_mail (s : State) (d : Demand) : (s.adopt d).mail = s.mail := by
  unfold State.adopt State.stopTravel
  dsimp only
  split
  · split
    · rfl
    · split
      · split <;> rfl
      · rfl
  · rfl

theorem State.receiveDemand_mail (s : State) (d : Demand) : (s.receiveDemand d).mail = s.mail := by
  rcases s.receiveDemand_cases d with ⟨-, h⟩ | ⟨-, h⟩ <;> rw [h]
  exact s.adopt_mail d

theorem State.takeDemand_mail (s : State) (sender : Nat) (kind : Byte) (number : Word16) :
    (s.takeDemand sender kind number).mail = s.mail := by
  unfold State.takeDemand
  split
  · exact s.receiveDemand_mail _
  · rfl

theorem State.takeEcho_mail (s : State) (echo : Option Echo) : (s.takeEcho echo).mail = s.mail := by
  unfold State.takeEcho
  split
  · split
    · exact s.receiveDemand_mail _
    · rfl
  · rfl

theorem State.followReference_mail (s : State) : s.followReference.mail = s.mail := by
  unfold State.followReference
  dsimp only
  split <;> rfl

theorem State.recordStatus_mail (s : State) (i : Fin 16) (p : PeerEntry) (fits : Bool) (stamp captured : Nat) :
    (s.recordStatus i p fits stamp captured).mail = s.mail := by
  unfold State.recordStatus
  split <;> exact (s.reported i p fits).followReference_mail

theorem State.acceptStatus_mail (s : State) (i : Fin 16) (l : Link) (captured : Nat) (seq : Byte)
    (body : StatusBody) : (s.acceptStatus i l captured seq body).mail = s.mail := by
  rw [State.acceptStatus_eq]
  split
  · rw [State.takeEcho_mail, State.recordStatus_mail]
  · rw [State.recordStatus_mail]

theorem State.takeHalt_mail (s : State) (sender : Nat) (mask : StationMask) (reason : Byte) :
    (s.takeHalt sender mask reason).mail = s.mail := by
  unfold State.takeHalt
  split <;> simp

theorem State.resume_mail (s : State) : s.resume.mail = s.mail := by
  rcases s.resume_cases.2 with h | ⟨-, h⟩ <;> rw [h]
  · rfl
  · exact (State.discardInterrupted_mail _).trans rfl

theorem State.takeResume_mail (s : State) (sender : Nat) (mask : StationMask) :
    (s.takeResume sender mask).mail = s.mail := by
  unfold State.takeResume
  split
  · exact s.resume_mail
  · rfl

/-- A telegram handed on forms at most a RECORD (R162). -/
theorem State.handOn_filled (s : State) (sender : Nat) (body : TelegramBody) :
    s.Filled [.record] (s.handOn sender body) := by
  cases body with
  | halt mask reason => exact .of_mail (s.takeHalt_mail sender mask reason)
  | resume mask => exact .of_mail (s.takeResume_mail sender mask)
  | demand kind number => exact .of_mail (s.takeDemand_mail sender kind number)
  | status body => exact .refl _ _
  | record bytes => exact .refl _ _
  | query target =>
    show s.Filled [.record] (s.takeQuery sender target.toNat)
    unfold State.takeQuery
    split
    · exact s.formTelegram_filled _ _
    · exact .refl _ _

theorem State.Delivered.filled {s d : State} {l : Link} {captured : Nat} {t : Telegram}
    (h : s.Delivered l captured t d) : s.Filled [.haltcmd, .record] d := by
  cases h with
  | dropped => exact .refl _ _
  | own => exact (s.raiseCause_filled _).mono (by simp)
  | handed => exact (s.handOn_filled _ _).mono (by simp)
  | status => exact .of_mail (s.acceptStatus_mail _ _ _ _ _)
  | taken _ _ i =>
    have hset : s.Filled [.haltcmd, .record] (s.setPeer i (s.peers[i].takeOther t.seq t.body)) := .of_eq rfl rfl
    exact hset.trans ((State.handOn_filled _ _ _).mono (by simp))

theorem State.keyActive_mail (s : State) : s.keyActive.mail = s.mail := by
  unfold State.keyActive
  split
  · split
    · simp
    · rfl
  · rfl

theorem State.rebuild_mail (s : State) (encoder : Option Word16) : (s.rebuild encoder).mail = s.mail := by
  unfold State.rebuild
  split <;> rfl

theorem State.handButtonChanged_mail (s : State) (m : HandMove) (active : Bool) :
    (s.handButtonChanged m active).mail = s.mail := by
  unfold State.handButtonChanged State.beginHandMove
  split
  · split <;> simp
  · split
    · dsimp only
      split <;> rfl
    · rfl

/-- HAND is left, the hand move ended and the journal rebuilt: what the release of the key does before an invalid reading
is judged (R127). -/
def State.leaveHand (s : State) (encoder : Option Word16) : State :=
  ({ s.endHandMove with hand := { s.endHandMove.hand with state := .off } } : State).rebuild encoder

theorem State.keyInactive_of_hand {s : State} (h : s.hand.state = .hand) (encoder : Option Word16) :
    s.keyInactive encoder =
      if (s.leaveHand encoder).role == .hoist && encoder.isNone then (s.leaveHand encoder).raiseCause .encoder
      else s.leaveHand encoder := by
  unfold State.keyInactive
  rw [h]
  rfl

theorem State.keyInactive_of_pending {s : State} (h : s.hand.state = .pending) (encoder : Option Word16) :
    s.keyInactive encoder = { s with hand := { s.hand with state := .off } } := by
  unfold State.keyInactive
  rw [h]

theorem State.keyInactive_of_off {s : State} (h : s.hand.state = .off) (encoder : Option Word16) :
    s.keyInactive encoder = s := by
  unfold State.keyInactive
  rw [h]

theorem State.leaveHand_mail (s : State) (encoder : Option Word16) : (s.leaveHand encoder).mail = s.mail :=
  (State.rebuild_mail _ _).trans s.endHandMove_mail

theorem State.keyInactive_filled (s : State) (encoder : Option Word16) : s.Filled [.haltcmd] (s.keyInactive encoder) := by
  cases hstate : s.hand.state with
  | off =>
    rw [State.keyInactive_of_off hstate]
    exact .refl _ _
  | pending =>
    rw [State.keyInactive_of_pending hstate]
    exact .of_eq rfl rfl
  | hand =>
    have hleft : s.Filled [.haltcmd] (s.leaveHand encoder) := .of_mail (s.leaveHand_mail encoder)
    rw [State.keyInactive_of_hand hstate]
    split
    · exact hleft.trans (State.raiseCause_filled _ _)
    · exact hleft

/-- The demand a press issues (R29). -/
def State.nextDemand (s : State) (k : DemandKind) : Demand := { number := s.nextNumber, issuer := s.own, kind := k }

/-- A press that issues a demand has counted and adopted it, before its telegram is formed (R29). -/
def State.issued (s : State) (k : DemandKind) : State :=
  ({ s with demand := { s.demand with counter := s.nextNumber } } : State).adopt (s.nextDemand k)

/-- A press is ignored for the adopted kind, refused past the last number, or issues a demand (R29, R30). -/
theorem State.pressDemand_cases (s : State) (k : DemandKind) :
    (s.adoptedKind = some k ∧ s.pressDemand k = s) ∨
    (s.adoptedKind ≠ some k ∧ 65535 < s.nextNumber ∧
      s.pressDemand k = { s with demand := { s.demand with exhausted := true } }) ∨
    (s.adoptedKind ≠ some k ∧ s.nextNumber ≤ 65535 ∧
      s.pressDemand k = (s.issued k).formTelegram .demand (.demand k.code (BitVec.ofNat 16 s.nextNumber))) := by
  unfold State.pressDemand
  split
  next h => exact .inl ⟨beq_iff_eq.mp h, rfl⟩
  next h =>
    rw [beq_iff_eq] at h
    split
    next hn => exact .inr (.inl ⟨h, hn, rfl⟩)
    next hn => exact .inr (.inr ⟨h, not_lt.mp hn, rfl⟩)

theorem State.issued_mail (s : State) (k : DemandKind) : (s.issued k).mail = s.mail :=
  (State.adopt_mail _ _).trans rfl

theorem State.pressDemand_filled (s : State) (k : DemandKind) : s.Filled [.demand] (s.pressDemand k) := by
  rcases s.pressDemand_cases k with ⟨-, h⟩ | ⟨-, -, h⟩ | ⟨-, -, h⟩ <;> rw [h]
  · exact .refl _ _
  · exact .of_eq rfl rfl
  · exact (State.Filled.of_mail (s.issued_mail k)).trans ((s.issued k).formTelegram_filled _ _)

theorem State.pressHalt_filled (s : State) : s.Filled [.haltcmd] s.pressHalt := by
  unfold State.pressHalt
  split
  · exact s.formHalt_filled _
  · exact s.raiseCause_filled _

theorem State.pressResume_filled (s : State) : s.Filled [.haltcmd] s.pressResume :=
  (State.Filled.of_mail s.resume_mail).trans s.resume.formResume_filled

/-- An input recognized as changed forms HALTs, RESUMEs and DEMANDs alone. -/
theorem State.inputChanged_filled (s : State) (i : Fin 16) (active : Bool) (encoder : Option Word16) :
    s.Filled [.haltcmd, .demand] (s.inputChanged i active encoder) := by
  have detectors (k : Nat) : s.Filled [.haltcmd, .demand] (s.detectorChanged k active) := by
    unfold State.detectorChanged
    split <;> exact .of_eq rfl rfl
  have buttons (m : HandMove) (k : DemandKind) : s.Filled [.haltcmd, .demand] (s.buttonChanged m k active) := by
    unfold State.buttonChanged
    split
    · split
      · exact (s.pressDemand_filled k).mono (by simp)
      · exact .refl _ _
    · exact .refl _ _
    · exact .of_mail (s.handButtonChanged_mail m active)
  unfold State.inputChanged
  split
  · split
    · exact (s.raiseCause_filled _).mono (by simp)
    · exact .of_eq rfl rfl
  · split
    · split
      · exact .of_mail s.keyActive_mail
      · exact (s.keyInactive_filled encoder).mono (by simp)
    · exact .refl _ _
  · exact buttons _ _
  · exact buttons _ _
  · split
    · exact s.pressHalt_filled.mono (by simp)
    · exact .refl _ _
  · split
    · exact s.pressResume_filled.mono (by simp)
    · exact .refl _ _
  · exact detectors 0
  · exact detectors 1
  · exact detectors 2
  · exact detectors 3
  · exact .refl _ _

theorem State.endOfTravel_filled (s : State) : s.Filled [.haltcmd] s.endOfTravel := by
  rcases s.endOfTravel_cases with ⟨-, h⟩ | ⟨-, h⟩ | h <;> rw [h]
  · have hjudged : s.Filled [.haltcmd] s.judgeSeating := .of_eq rfl rfl
    exact hjudged.trans (s.judgeSeating.raiseCause_filled _)
  · exact .of_eq rfl rfl
  · exact .of_eq rfl rfl

theorem State.fullComputation_filled (s : State) (w : ControlWork) (up : Bool) :
    s.Filled [.haltcmd] (s.fullComputation w up) := by
  have hskew : s.Filled [.haltcmd] s.throughSkew := .of_eq rfl rfl
  by_cases htrip : s.cfg.skewTrip < skewOf s.level.height s.peerHeights
  · rw [State.fullComputation_of_trip w up htrip]
    exact hskew.trans (s.throughSkew.raiseCause_filled _)
  · have href : s.Filled [.haltcmd] (s.throughReference w up) := .of_eq rfl rfl
    rw [State.fullComputation_of_no_trip w up (not_lt.mp htrip)]
    exact href.trans (State.endOfTravel_filled _)

/-- The state with a valid reading recorded (R95). -/
def State.readHeight (s : State) (h : Word16) : State :=
  { s with level := { s.level with height := h.toNat, expiryHeight := h.toNat } }

/-- The skew-only computation of a handshake (R96, R103). -/
def State.skewOnly (s : State) : State :=
  ({ s with level := { s.level with speedRef := 0, line := some 0 } } : State).formSkew s.peerHeights

/-- What an expiry with a valid reading does, by the work it finds (R96). -/
inductive State.ControlDone (s : State) : State → Prop
  | none (work : s.controlWork = .none) : s.ControlDone s.noComputation
  | skewOnly (work : s.controlWork = .skewOnly) : s.ControlDone s.skewOnly
  | full (w : ControlWork) (up : Bool) (work : s.controlWork = w)
      (kind : w = .travel up ∨ w = .stopping up ∨ w = .hand up) : s.ControlDone (s.fullComputation w up)

theorem State.controlExpiry_some (s : State) (h : Word16) :
    (s.readHeight h).ControlDone (s.controlExpiry (some h)) := by
  unfold State.controlExpiry
  dsimp only
  split
  next hw => exact .none hw
  next hw => exact .skewOnly hw
  next up hw => exact .full _ up hw (.inl rfl)
  next up hw => exact .full _ up hw (.inr (.inl rfl))
  next up hw => exact .full _ up hw (.inr (.inr rfl))

theorem State.ControlDone.filled {s t : State} (h : s.ControlDone t) : s.Filled [.haltcmd] t := by
  cases h with
  | none => exact .of_eq rfl rfl
  | skewOnly => exact .of_eq rfl rfl
  | full w up => exact s.fullComputation_filled w up

theorem State.controlExpiry_filled (s : State) (encoder : Option Word16) :
    s.Filled [.haltcmd] (s.controlExpiry encoder) := by
  cases encoder with
  | none =>
    have hrest : s.Filled [.haltcmd] s.noComputation := .of_eq rfl rfl
    exact hrest.trans (s.noComputation.raiseCause_filled _)
  | some h =>
    have hread : s.Filled [.haltcmd] (s.readHeight h) := .of_eq rfl rfl
    exact hread.trans (s.controlExpiry_some h).filled

/-! ### Links are kept -/

theorem LinkController.Filled.fits {kinds : List SlotKind} {c c' : LinkController} (h : c.Filled kinds c')
    (hc : c.fits) : c'.fits := by
  obtain ⟨hstill, hattempt, hfailed, -⟩ := h
  obtain ⟨hfifteen, hgood, hdegraded, hdead, hbusy⟩ := hc
  have hstate : c'.state = c.state := congrArg LinkStill.state hstill
  have hhealth : c'.health = c.health := congrArg LinkStill.health hstill
  have hcaptured : c'.captured = c.captured := congrArg LinkStill.captured hstill
  refine ⟨hhealth ▸ hfifteen, hstate ▸ hhealth ▸ hgood, hstate ▸ hhealth ▸ hdegraded, fun hc' => ?_, ?_⟩
  · rw [hfailed (by simpa [LinkController.failed, hstate] using hc')]
    exact hdead (hstate ▸ hc')
  · rw [hcaptured, ← Option.isSome_eq_false_iff.trans Option.isNone_iff_eq_none, hattempt,
      Option.isSome_eq_false_iff.trans Option.isNone_iff_eq_none]
    exact hbusy

theorem State.Filled.linksFit {kinds : List SlotKind} {s t : State} (h : s.Filled kinds t) (hs : s.linksFit) :
    t.linksFit :=
  ⟨h.1.fits hs.1, h.2.fits hs.2⟩

theorem State.linksFit_link {s : State} (hs : s.linksFit) (l : Link) : (s.link l).fits := by
  cases l
  · exact hs.1
  · exact hs.2

theorem State.setLink_linksFit {s : State} {c : LinkController} (l : Link) (hs : s.linksFit) (hc : c.fits) :
    (s.setLink l c).linksFit := by
  cases l
  · exact ⟨hc, hs.2⟩
  · exact ⟨hs.1, hc⟩

theorem State.linksFit_of_mail {s t : State} (h : t.mail = s.mail) (hs : s.linksFit) : t.linksFit :=
  (State.Filled.of_mail (kinds := []) h).linksFit hs

/-- The state a count gives fits the count (R160). -/
theorem LinkState.judge_fits (x : LinkState) (n : Nat) :
    (x.judge n = .good → n ≤ 5) ∧ (x.judge n = .degraded → 6 ≤ n ∧ n ≤ 11) ∧ (x.judge n = .failed → 6 ≤ n) := by
  cases x <;> simp only [LinkState.judge]
  all_goals
    repeat' split
    all_goals (simp; omega)

theorem LinkController.judge_fits {c : LinkController} (hc : c.fits) {n : Nat} (hn : n ≤ 15) : (c.judge n).fits := by
  obtain ⟨-, -, -, hdead, hbusy⟩ := hc
  obtain ⟨hhealth, hstate, hcaptured, -, hslots⟩ := c.judge_cases n
  obtain ⟨hgood, hdegraded, hfailed⟩ := c.state.judge_fits n
  rw [← hstate] at hgood hdegraded hfailed
  simp only [LinkController.fits, hhealth]
  rcases hslots with ⟨-, hf, hsilent⟩ | ⟨hwas, heq⟩
  · have hidle : (c.judge n).attempt = none := by
      simp only [LinkController.silent, Bool.and_eq_true, Option.isNone_iff_eq_none] at hsilent
      exact hsilent.2
    exact ⟨hn, hgood, hdegraded, fun h => ⟨hfailed h, hsilent⟩, .inl hidle⟩
  · refine ⟨hn, hgood, hdegraded, fun h => ⟨hfailed h, ?_⟩, ?_⟩
    · have hsilent : c.silent = true := by
        rcases hwas with hwas | hwas
        · exact (hdead (by simpa [LinkController.failed] using hwas)).2
        · simp [LinkController.failed, h] at hwas
      rw [heq]
      exact hsilent
    · rw [heq]
      exact hbusy

theorem State.setHealth_filled (s : State) (l : Link) (n : Nat) :
    (s.setLink l ((s.link l).judge n)).Filled [.haltcmd] (s.setHealth l n) := by
  rcases s.setHealth_cases l n with ⟨-, h⟩ | ⟨-, -, h⟩ | ⟨-, -, h⟩ <;> rw [h]
  · exact State.raiseCause_filled _ _
  · exact .of_eq rfl rfl
  · exact .refl _ _

theorem State.setHealth_linksFit {s : State} (l : Link) {n : Nat} (hn : n ≤ 15) (hs : s.linksFit) :
    (s.setHealth l n).linksFit :=
  (s.setHealth_filled l n).linksFit (State.setLink_linksFit l hs (LinkController.judge_fits (State.linksFit_link hs l) hn))

theorem State.linkTrouble_linksFit {s : State} (l : Link) (hs : s.linksFit) : (s.linkTrouble l).linksFit :=
  State.setHealth_linksFit l (by omega) hs

theorem State.linkGood_linksFit {s : State} (l : Link) (hs : s.linksFit) : (s.linkGood l).linksFit :=
  State.setHealth_linksFit l (Nat.sub_le_of_le_add (Nat.le_succ_of_le (State.linksFit_link hs l).1)) hs

theorem LinkController.fits_of_captured {c : LinkController} (hc : c.fits) :
    ({ c with captured := none } : LinkController).fits := by
  obtain ⟨hfifteen, hgood, hdegraded, hdead, -⟩ := hc
  exact ⟨hfifteen, hgood, hdegraded, hdead, .inr rfl⟩

theorem State.endReception_linksFit {s : State} (l : Link) (hs : s.linksFit) : (s.endReception l).linksFit :=
  State.setLink_linksFit l hs (LinkController.fits_of_captured (State.linksFit_link hs l))

theorem State.restartSilence_linksFit {s : State} (l : Link) (hs : s.linksFit) : (s.restartSilence l).linksFit :=
  State.setLink_linksFit l hs (State.linksFit_link hs l)

theorem State.countValid_linksFit {s : State} (l : Link) (hs : s.linksFit) : (s.countValid l).linksFit :=
  State.linkGood_linksFit l (State.restartSilence_linksFit l (State.endReception_linksFit l hs))

/-- A controller whose attempt is over, whatever it receives from then on. -/
theorem LinkController.idle_fits {c : LinkController} (hc : c.fits) (sending : c.attempt.isSome = true)
    (captured : Option Nat) : ({ c with attempt := none, captured := captured } : LinkController).fits := by
  obtain ⟨hfifteen, hgood, hdegraded, hdead, -⟩ := hc
  refine ⟨hfifteen, hgood, hdegraded, fun h => ?_, .inl rfl⟩
  have hsilent := (hdead h).2
  simp only [LinkController.silent, Bool.and_eq_true, Option.isNone_iff_eq_none] at hsilent
  simp [hsilent.2] at sending

theorem LinkController.sent_fits {c : LinkController} (hc : c.fits) {a : Attempt} (sending : c.attempt = some a) :
    (c.sent a).fits := by
  obtain ⟨hfifteen, hgood, hdegraded, hdead, -⟩ := LinkController.idle_fits hc (by simp [sending]) c.captured
  unfold LinkController.sent
  dsimp only
  split
  · exact ⟨hfifteen, hgood, hdegraded, hdead, .inl rfl⟩
  · have alive : c.state ≠ .failed := fun h => by
      have hsilent := (hc.2.2.2.1 h).2
      simp [LinkController.silent, sending] at hsilent
    cases a.slot <;> exact ⟨hfifteen, hgood, hdegraded, fun h => absurd h alive, .inl rfl⟩

theorem State.Event.keeps_linksFit {s t : State} (h : s.Event t) (hs : s.linksFit) : t.linksFit := by
  cases h with
  | input i encoder =>
    exact (State.inputChanged_filled _ _ _ _).linksFit (State.linksFit_of_mail (s := s) rfl hs)
  | troubled l => exact State.linkTrouble_linksFit l (State.endReception_linksFit l hs)
  | damaged l a sending =>
    exact State.linkTrouble_linksFit l
      (State.setLink_linksFit l hs (LinkController.idle_fits (State.linksFit_link hs l) (by simp [sending]) _))
  | silent l => exact State.linkTrouble_linksFit l (State.restartSilence_linksFit l hs)
  | counted l check => exact State.linksFit_of_mail (s := s.countValid l) rfl (State.countValid_linksFit l hs)
  | delivered l tel =>
    exact (State.deliver_delivered _ _ _ _).filled.linksFit
      (State.linksFit_of_mail (s := s.countValid l) rfl (State.countValid_linksFit l hs))
  | sent l a sending =>
    exact State.linkGood_linksFit l
      (State.setLink_linksFit l hs (LinkController.sent_fits (State.linksFit_link hs l) sending))
  | deadline i => exact hs
  | stalled => exact hs
  | supervised => exact (s.endStep.raiseCause_filled _).linksFit (State.linksFit_of_mail (s := s) rfl hs)
  | prewarned => exact hs
  | cleared => exact hs
  | ambered => exact hs
  | recovered => exact hs
  | control encoder =>
    exact (State.controlExpiry_filled _ _).linksFit (State.linksFit_of_mail (s := s) rfl hs)
  | checked i current => exact hs
  | retried i => exact hs
  | boundary => exact hs

theorem State.linksFit_default {s : State} (ha : s.linkA = {}) (hb : s.linkB = {}) : s.linksFit := by
  simp [State.linksFit, LinkController.fits, ha, hb]

theorem State.startKey_mail (s : State) : s.startKey.mail = s.mail := by
  unfold State.startKey
  split
  · exact s.keyActive_mail
  · rfl

theorem State.startRole_mail (s : State) (encoder : Option Word16) : (s.startRole encoder).mail = s.mail := by
  have h := s.rebuild_mail encoder
  unfold State.startRole
  dsimp only
  split <;> exact h

/-- The entry into RUN forms the HALTs of its causes and the first STATUS alone, once the silence timers are started. -/
theorem State.enterRun_filled (s : State) (encoder : Option Word16) (ambient : Byte) :
    (s.entering encoder ambient).Filled [.haltcmd, .status] (s.enterRun encoder ambient) := by
  have hraised := (s.entering encoder ambient).raiseCauses_filled ((s.entering encoder ambient).startCauses encoder)
  have hkey : (s.entering encoder ambient).Filled [.haltcmd] (s.entered encoder ambient) :=
    hraised.trans (.of_mail (State.startKey_mail _))
  have hreact := hkey.trans ((s.entered encoder ambient).react_filled false)
  rw [State.enterRun_eq]
  exact (hreact.mono (by simp)).trans ((State.formStatus_filled _).mono (by simp))

theorem State.entering_linksFit {s : State} (encoder : Option Word16) (ambient : Byte) (hs : s.linksFit) :
    (s.entering encoder ambient).linksFit :=
  State.restartSilence_linksFit .b <| State.restartSilence_linksFit .a <|
    State.linksFit_of_mail (s := s) (State.startRole_mail _ _) hs

theorem State.Outcome.keeps_linksFit {s t : State} {cmd : Instr} (hs : s.linksFit) (h : s.Outcome cmd t) : t.linksFit := by
  cases h with
  | same => exact hs
  | started strap1 strap2 => exact State.linksFit_default rfl rfl
  | reset => exact State.linksFit_default rfl rfl
  | refused check => exact hs
  | loaded check reading image c => exact hs
  | entered encoder ambient =>
    exact (s.enterRun_filled encoder ambient).linksFit (State.entering_linksFit encoder ambient hs)
  | line i x => exact hs
  | heard l open_ =>
    obtain ⟨hfifteen, hgood, hdegraded, hdead, -⟩ := State.linksFit_link hs l
    exact State.setLink_linksFit l hs ⟨hfifteen, hgood, hdegraded, hdead, .inl (State.mayReceive_iff.mp open_).2⟩
  | begun l k tel first free =>
    obtain ⟨hfifteen, hgood, hdegraded, -, -⟩ := State.linksFit_link hs l
    simp only [State.maySend, Bool.and_eq_true, Bool.not_eq_true', Option.isNone_iff_eq_none] at free
    obtain ⟨⟨⟨-, alive⟩, -⟩, hcaptured⟩ := free
    refine State.linksFit_of_mail (s := s.setLink l _) rfl (State.setLink_linksFit l hs
      ⟨hfifteen, hgood, hdegraded, fun h => ?_, .inr hcaptured⟩)
    have hstate : (s.link l).state = .failed := h
    simp [LinkController.failed, hstate] at alive
  | outbid l a running sending =>
    exact State.setLink_linksFit l hs (LinkController.idle_fits (State.linksFit_link hs l) (by simp [sending]) _)
  | beat f => exact hs
  | status f => exact (State.formStatus_filled _).linksFit hs
  | sampled a => exact hs
  | patterned => exact hs
  | idled => exact hs
  | event check after running h => exact (State.conclude_filled _ _).linksFit (h.keeps_linksFit hs)

theorem State.tick_linksFit {s : State} (hs : s.linksFit) : s.tick.linksFit := by
  unfold State.tick
  split <;> exact hs

/-- Settles O54: a count that is judged leaves a controller that fits (`LinkController.judge_fits`), and the forming of
telegrams keeps one that does (`LinkController.Filled.fits`). -/
theorem stepKeepsLinks : Obligations.StepKeepsLinks := by
  intro s t hs h
  exact State.step_keeps (P := State.linksFit) (fun _ _ h => h) (fun _ => State.tick_linksFit)
    (fun _ _ _ => State.Outcome.keeps_linksFit) hs h

end Sys2Proof.Machine

/-!
PROOFS. The halt record: what an origin, a cause and a RESUME make of it, what the reactions can add to it, and the
halt record that every step keeps (section 7.1).
-/

namespace Sys2Proof.Machine

/-! ### Operations on the record alone -/

/-- The halt record with a station number among its origins, the first one with its reason where there was none
(R112). -/
def HaltRecord.addOrigin (h : HaltRecord) (n : Nat) (r : HaltReason) : HaltRecord :=
  if h.origins != 0 then { h with origins := maskAdd h.origins n }
  else { h with origins := maskAdd h.origins n, firstOrigin := some n, firstReason := some r }

/-- The halt record after a local cause has arisen (R113, R114). -/
def HaltRecord.raise (h : HaltRecord) (own : Nat) (c : LocalCause) : HaltRecord :=
  if h.has c then h else (h.put c).addOrigin own (.cause c)

theorem State.addOrigin_halt (s : State) (n : Nat) (r : HaltReason) :
    (s.addOrigin n r).halt = s.halt.addOrigin n r := by
  unfold HaltRecord.addOrigin
  rcases s.addOrigin_cases n r with ⟨h, heq⟩ | ⟨h, heq, -⟩
  · rw [heq]
    exact (if_pos h).symm
  · rw [heq]
    exact (if_neg (by simpa [State.halted] using h)).symm

theorem State.caused_halt (s : State) (c : LocalCause) :
    (s.caused c).halt = (s.halt.put c).addOrigin s.own (.cause c) :=
  State.addOrigin_halt _ _ _

theorem State.raiseCause_halt (s : State) (c : LocalCause) : (s.raiseCause c).halt = s.halt.raise s.own c := by
  unfold HaltRecord.raise
  cases h : s.halt.has c with
  | true => rw [State.raiseCause_of_present h, if_pos rfl]
  | false => rw [State.raiseCause_of_absent h, State.formHalt_halt, State.caused_halt, if_neg (by simp)]

theorem HaltRecord.has_put (h : HaltRecord) (c d : LocalCause) : (h.put c).has d = (h.has d || decide (d = c)) := by
  unfold HaltRecord.has HaltRecord.put
  cases hc : c.isLive <;> cases hd : d.isLive <;> simp [causeHas_causeAdd] <;> (rintro rfl; simp_all)

@[simp] theorem HaltRecord.has_addOrigin (h : HaltRecord) (n : Nat) (r : HaltReason) (c : LocalCause) :
    (h.addOrigin n r).has c = h.has c := by
  unfold HaltRecord.addOrigin
  split <;> rfl

theorem HaltRecord.has_raise (h : HaltRecord) (own : Nat) (c d : LocalCause) :
    (h.raise own c).has d = (h.has d || decide (d = c)) := by
  unfold HaltRecord.raise
  split
  next hc =>
    by_cases hd : d = c
    · simp [hd, hc]
    · simp [hd]
  · rw [HaltRecord.has_addOrigin, HaltRecord.has_put]

theorem HaltRecord.put_firstOrigin (h : HaltRecord) (c : LocalCause) : (h.put c).firstOrigin = h.firstOrigin := by
  unfold HaltRecord.put
  split <;> rfl

theorem HaltRecord.put_firstReason (h : HaltRecord) (c : LocalCause) : (h.put c).firstReason = h.firstReason := by
  unfold HaltRecord.put
  split <;> rfl

theorem maskAdd_ne_zero (m : StationMask) {n : Nat} (hn : n < 32) : maskAdd m n ≠ 0 := by
  intro h
  have hhas := maskHas_maskAdd m n n hn
  rw [h] at hhas
  simp [maskHas] at hhas

/-- What an origin leaves of the record: the origins grow, the causes stay, and a halted record keeps its first. -/
theorem HaltRecord.addOrigin_origins (h : HaltRecord) (n : Nat) (r : HaltReason) :
    (h.addOrigin n r).origins = maskAdd h.origins n := by
  unfold HaltRecord.addOrigin
  split <;> rfl

@[simp] theorem HaltRecord.addOrigin_live (h : HaltRecord) (n : Nat) (r : HaltReason) :
    (h.addOrigin n r).live = h.live := by
  unfold HaltRecord.addOrigin
  split <;> rfl

@[simp] theorem HaltRecord.addOrigin_latched (h : HaltRecord) (n : Nat) (r : HaltReason) :
    (h.addOrigin n r).latched = h.latched := by
  unfold HaltRecord.addOrigin
  split <;> rfl

/-! ### The law of the record -/

/-- The halt record as R112 keeps it at a station of number `own`: halted exactly when it has a first origin and a first
reason, the own number among the origins while a local cause is present. -/
def HaltRecord.Kept (h : HaltRecord) (own : Nat) : Prop :=
  (h.origins != 0) = h.firstOrigin.isSome ∧ (h.origins != 0) = h.firstReason.isSome ∧
    (h.live ≠ 0 ∨ h.latched ≠ 0 → maskHas h.origins own = true)

/-- A station other than the own joins the origins. -/
theorem HaltRecord.Kept.addOrigin {h : HaltRecord} {own : Nat} (hk : h.Kept own) {n : Nat} (hn : n < 32)
    (r : HaltReason) : (h.addOrigin n r).Kept own := by
  obtain ⟨horigin, hreason, hown⟩ := hk
  have hset : (maskAdd h.origins n != 0) = true := by simpa using maskAdd_ne_zero h.origins hn
  refine ⟨?_, ?_, ?_⟩
  · unfold HaltRecord.addOrigin
    split
    next hz => simpa only [hset, hz] using horigin
    next => simpa using maskAdd_ne_zero h.origins hn
  · unfold HaltRecord.addOrigin
    split
    next hz => simpa only [hset, hz] using hreason
    next => simpa using maskAdd_ne_zero h.origins hn
  · rw [HaltRecord.addOrigin_live, HaltRecord.addOrigin_latched, HaltRecord.addOrigin_origins,
      maskHas_maskAdd _ _ _ hn]
    exact fun hc => by simp [hown hc]

/-- The own number joins the origins, whatever causes stand. -/
theorem HaltRecord.kept_addOrigin_own {h : HaltRecord} {own : Nat}
    (horigin : (h.origins != 0) = h.firstOrigin.isSome) (hreason : (h.origins != 0) = h.firstReason.isSome)
    (hn : own < 32) (r : HaltReason) : (h.addOrigin own r).Kept own := by
  have hplain : ({ h with live := 0, latched := 0 } : HaltRecord).Kept own := ⟨horigin, hreason, by simp⟩
  obtain ⟨horigin', hreason', -⟩ := hplain.addOrigin hn r
  unfold HaltRecord.addOrigin at horigin' hreason' ⊢
  refine ⟨?_, ?_, fun _ => ?_⟩
  · split <;> simp_all
  · split <;> simp_all
  · split <;> simp [maskHas_maskAdd _ _ _ hn]

theorem HaltRecord.Kept.raise {h : HaltRecord} {own : Nat} (hk : h.Kept own) (hn : own < 32) (c : LocalCause) :
    (h.raise own c).Kept own := by
  unfold HaltRecord.raise
  split
  · exact hk
  · refine HaltRecord.kept_addOrigin_own ?_ ?_ hn _
    · rw [HaltRecord.put_origins, HaltRecord.put_firstOrigin]
      exact hk.1
    · rw [HaltRecord.put_origins, HaltRecord.put_firstReason]
      exact hk.2.1

theorem HaltRecord.kept_empty (own : Nat) : ({} : HaltRecord).Kept own := ⟨rfl, rfl, by simp⟩

theorem HaltRecord.Kept.removeLive {h : HaltRecord} {own : Nat} (hk : h.Kept own) (c : LocalCause) :
    ({ h with live := causeRemove h.live c } : HaltRecord).Kept own := by
  obtain ⟨horigin, hreason, hown⟩ := hk
  refine ⟨horigin, hreason, fun hc => hown (hc.imp_left fun hlive hzero => hlive ?_)⟩
  rw [hzero]
  exact BitVec.zero_and

theorem maskHas_and_twoPow (m : StationMask) {n : Nat} (hn : n < 32) :
    maskHas (m &&& BitVec.twoPow 32 n) n = maskHas m n := by
  unfold maskHas
  rw [BitVec.getLsbD_and, BitVec.getLsbD_twoPow]
  simp [hn]

theorem HaltRecord.Kept.resumed {h : HaltRecord} {own : Nat} (hk : h.Kept own) (hn : own < 32) (estop : Bool) :
    (h.resumed own estop).Kept own := by
  obtain ⟨-, -, hown⟩ := hk
  unfold HaltRecord.resumed
  split
  next hlive => exact ⟨rfl, rfl, by simp [beq_iff_eq.mp hlive]⟩
  next hlive =>
    have hhas : maskHas (h.origins &&& BitVec.twoPow 32 own) own = true :=
      (maskHas_and_twoPow _ hn).trans (hown (.inl (by simpa using hlive)))
    have hset : (h.origins &&& BitVec.twoPow 32 own != 0) = true := by
      rw [bne_iff_ne]
      intro hz
      simp [hz, maskHas] at hhas
    exact ⟨hset, hset, fun _ => hhas⟩

@[simp] theorem HaltRecord.resumed_live (h : HaltRecord) (own : Nat) (estop : Bool) :
    (h.resumed own estop).live = h.live := by
  unfold HaltRecord.resumed
  split <;> rfl

/-- A live cause is present exactly while its bit is among the live ones. -/
theorem HaltRecord.has_of_live (h : HaltRecord) {c : LocalCause} (hc : c.isLive = true) : h.has c = causeHas h.live c :=
  if_pos hc

/-- A latched cause is present exactly while its bit is among the latched ones. -/
theorem HaltRecord.has_of_latched (h : HaltRecord) {c : LocalCause} (hc : c.isLive = false) :
    h.has c = causeHas h.latched c :=
  if_neg (by simp [hc])

/-! ### The law of the station -/

/-- The halt record's laws, its record's own law taken together. -/
theorem State.haltFits_iff (s : State) : s.haltFits ↔
    (s.configured = true → 1 ≤ s.own ∧ s.own ≤ 30) ∧ (s.isRunning = false → s.halt = {} ∧ s.bothFailed = false) ∧
      s.halt.Kept s.own ∧ s.halt.has .isolated = s.bothFailed ∧
      (s.isRunning = true → s.halt.has .estop = s.estopInput) := by
  rw [State.haltFits, HaltRecord.Kept, HaltRecord.has_of_live _ (c := .isolated) rfl,
    HaltRecord.has_of_live _ (c := .estop) rfl]
  simp only [State.halted, State.causePresent, Bool.or_eq_true, bne_iff_ne, and_assoc]

theorem State.own_of_still {s t : State} (h : t.still = s.still) : t.own = s.own :=
  congrArg (·.cfg.station) h

theorem State.isRunning_of_still {s t : State} (h : t.still = s.still) : t.isRunning = s.isRunning := by
  rw [State.isRunning, State.isRunning, show t.stage = s.stage from congrArg Still.stage h]

theorem State.configured_of_still {s t : State} (h : t.still = s.still) : t.configured = s.configured := by
  rw [State.configured, State.configured, State.isRunning_of_still h,
    show t.loader = s.loader from congrArg Still.loader h]

theorem State.gi_of_still {s t : State} (h : t.still = s.still) (i : Fin 16) : t.gi i = s.gi i := by
  rw [State.gi, State.gi, show t.inputs = s.inputs from congrArg Still.inputs h]

theorem State.failed_of_still {s t : State} (h : t.still = s.still) (l : Link) : (t.link l).failed = (s.link l).failed := by
  cases l
  · exact LinkController.failed_of_still (congrArg Still.linkA h)
  · exact LinkController.failed_of_still (congrArg Still.linkB h)

theorem State.bothFailed_of_still {s t : State} (h : t.still = s.still) : t.bothFailed = s.bothFailed := by
  rw [State.bothFailed, State.bothFailed]
  exact congr (congrArg _ (State.failed_of_still h .a)) (State.failed_of_still h .b)

/-- The laws read the untouched part and the halt record. -/
theorem State.haltFits_of_still {s t : State} (h : t.still = s.still) (hhalt : t.halt = s.halt) (hs : s.haltFits) :
    t.haltFits := by
  rw [State.haltFits_iff] at hs ⊢
  have hestop : t.estopInput = s.estopInput := State.gi_of_still h 0
  simpa only [State.configured_of_still h, State.own_of_still h, State.isRunning_of_still h, hhalt,
    State.bothFailed_of_still h, hestop] using hs

/-- The own number of a running station is one of 1..30. -/
theorem State.own_of_haltFits {s : State} (hs : s.haltFits) (running : s.isRunning = true) : 1 ≤ s.own ∧ s.own ≤ 30 :=
  hs.1 (by simp [State.configured, running])

/-- A halt record that changes at a running station by a law-abiding operation. -/
theorem State.haltFits_of_record {s t : State} (h : t.still = s.still) (running : s.isRunning = true) (hs : s.haltFits)
    (hkept : t.halt.Kept s.own) (hisolated : t.halt.has .isolated = s.halt.has .isolated)
    (hestop : t.halt.has .estop = s.halt.has .estop) : t.haltFits := by
  rw [State.haltFits_iff] at hs ⊢
  obtain ⟨hown, -, -, hisolated', hestop'⟩ := hs
  have hinput : t.estopInput = s.estopInput := State.gi_of_still h 0
  refine ⟨by rwa [State.configured_of_still h, State.own_of_still h], fun hoff => ?_, ?_, ?_, fun _ => ?_⟩
  · rw [State.isRunning_of_still h, running] at hoff
    cases hoff
  · rwa [State.own_of_still h]
  · rw [hisolated, hisolated', State.bothFailed_of_still h]
  · rw [hestop, hestop' running, hinput]

theorem State.kept_of_haltFits {s : State} (hs : s.haltFits) : s.halt.Kept s.own := ((State.haltFits_iff s).mp hs).2.2.1

/-- A latched cause that arises at a running station. -/
theorem State.raiseCause_haltFits {s : State} {c : LocalCause} (running : s.isRunning = true)
    (latched : c.isLive = false) (hs : s.haltFits) : (s.raiseCause c).haltFits := by
  have hown := State.own_of_haltFits hs running
  refine State.haltFits_of_record (s.raiseCause_still c) running hs ?_ ?_ ?_ <;> rw [State.raiseCause_halt]
  · exact (State.kept_of_haltFits hs).raise (by omega) c
  · rw [HaltRecord.has_raise]
    cases c <;> simp_all [LocalCause.isLive]
  · rw [HaltRecord.has_raise]
    cases c <;> simp_all [LocalCause.isLive]

theorem LocalCause.ofTravel.latched {c : LocalCause} (h : c.ofTravel) : c.isLive = false := by
  rcases h with rfl | rfl | rfl <;> rfl

/-! ### The record in the reactions -/

@[simp] theorem State.discardInterrupted_halt (s : State) : s.discardInterrupted.halt = s.halt := by
  unfold State.discardInterrupted
  split <;> rfl

@[simp] theorem State.grantHand_halt (s : State) : s.grantHand.halt = s.halt := by
  unfold State.grantHand
  split
  · exact s.discardInterrupted_halt
  · rfl

@[simp] theorem State.settle_halt (s : State) : s.settle.halt = s.halt := by
  unfold State.settle
  dsimp only
  split <;> simp

@[simp] theorem State.endHandMove_halt (s : State) : s.endHandMove.halt = s.halt := by
  unfold State.endHandMove
  split <;> rfl

@[simp] theorem State.followHandMove_halt (s : State) : s.followHandMove.halt = s.halt := by
  unfold State.followHandMove
  split <;> simp

/-- What the sequencer's work keeps of a running station, the reactions keep, the lamps and the end of a hand move
apart. -/
theorem State.sequenced_keeps {P : State → Prop} {held : Bool} {s : State} (settles : ∀ s, P s → P s.settle)
    (moves : ∀ s b r, P s → s.nextMove held b = some r → P r.2) (h : P s.prepared) : P (s.sequenced held) := by
  rw [State.sequenced_eq]
  exact State.advance_keeps settles moves _ _ _ h

@[simp] theorem State.sequenced_still (held : Bool) (s : State) : (s.sequenced held).still = s.still := by
  rw [State.sequenced_eq, State.advance_still, State.prepared_still]

theorem State.sequenced_haltFits {s : State} (held : Bool) (running : s.isRunning = true) (hs : s.haltFits) :
    (s.sequenced held).haltFits := by
  have hprepared : s.prepared.isRunning = true ∧ s.prepared.haltFits :=
    ⟨(State.isRunning_of_still s.prepared_still).trans running,
      State.haltFits_of_still s.prepared_still s.prepared_halt hs⟩
  refine (State.sequenced_keeps (P := fun t => t.isRunning = true ∧ t.haltFits) (fun t ht => ?_)
    (fun t b r ht hm => ?_) hprepared).2
  · exact ⟨(State.isRunning_of_still t.settle_still).trans ht.1, State.haltFits_of_still t.settle_still t.settle_halt ht.2⟩
  · refine State.nextMove_keeps (P := fun t => t.isRunning = true ∧ t.haltFits) (fun u st b hu => ?_) (fun u hu => hu)
      (fun u st hu => hu) (fun u hu => hu) (fun u c hc hu => ?_) ht hm
    · exact ⟨(State.isRunning_of_still (u.beginStep_still st b)).trans hu.1,
        State.haltFits_of_still (u.beginStep_still st b) (u.beginStep_halt st b) hu.2⟩
    · exact ⟨(State.isRunning_of_still (u.raiseCause_still c)).trans hu.1,
        State.raiseCause_haltFits hu.1 hc.latched hu.2⟩

theorem State.react_halt (held : Bool) (s : State) : (s.react held).halt = (s.sequenced held).halt := by
  rw [State.react_eq, State.followLamps_halt, State.followHandMove_halt]

@[simp] theorem State.formStatus_halt (s : State) : s.formStatus.halt = s.halt := by
  unfold State.formStatus
  split <;> rfl

@[simp] theorem State.noteChange_halt (s : State) (b : Bool) : (s.noteChange b).halt = s.halt := by
  rcases s.noteChange_cases b with h | ⟨-, h⟩ <;> rw [h]
  exact s.formStatus_halt

/-- The end of an event leaves the halt record as the sequencer's moves leave it. -/
theorem State.conclude_halt (before after : State) :
    (State.conclude before after).halt = (after.sequenced (before.reversalStopped after)).halt := by
  rcases State.conclude_cases before after with h | h <;> rw [h]
  · exact State.react_halt _ _
  · rw [State.noteChange_halt, State.react_halt]

theorem State.react_haltFits {s : State} (held : Bool) (running : s.isRunning = true) (hs : s.haltFits) :
    (s.react held).haltFits :=
  State.haltFits_of_still ((s.react_still held).trans (s.sequenced_still held).symm) (s.react_halt held)
    (State.sequenced_haltFits held running hs)

theorem State.conclude_haltFits (before : State) {after : State} (running : after.isRunning = true)
    (hs : after.haltFits) : (State.conclude before after).haltFits :=
  State.haltFits_of_still ((State.conclude_still before after).trans (State.sequenced_still _ after).symm)
    (State.conclude_halt before after) (State.sequenced_haltFits _ running hs)

/-! ### The record at an event -/

theorem State.adopt_halt (s : State) (d : Demand) : (s.adopt d).halt = s.halt := by
  unfold State.adopt State.stopTravel
  dsimp only
  split
  · split
    · rfl
    · split
      · split <;> rfl
      · rfl
  · rfl

theorem State.receiveDemand_halt (s : State) (d : Demand) : (s.receiveDemand d).halt = s.halt := by
  rcases s.receiveDemand_cases d with ⟨-, h⟩ | ⟨-, h⟩ <;> rw [h]
  exact s.adopt_halt d

theorem State.takeEcho_halt (s : State) (echo : Option Echo) : (s.takeEcho echo).halt = s.halt := by
  unfold State.takeEcho
  split
  · split
    · exact s.receiveDemand_halt _
    · rfl
  · rfl

theorem State.followReference_halt (s : State) : s.followReference.halt = s.halt := by
  unfold State.followReference
  dsimp only
  split <;> rfl

theorem State.acceptStatus_halt (s : State) (i : Fin 16) (l : Link) (captured : Nat) (seq : Byte)
    (body : StatusBody) : (s.acceptStatus i l captured seq body).halt = s.halt := by
  have hrecord (p : PeerEntry) (fits : Bool) (stamp : Nat) : (s.recordStatus i p fits stamp captured).halt = s.halt := by
    unfold State.recordStatus
    split <;> exact (s.reported i p fits).followReference_halt
  rw [State.acceptStatus_eq]
  split
  · rw [State.takeEcho_halt, hrecord]
  · rw [hrecord]

theorem State.takeHalt_halt (s : State) (sender : Nat) (mask : StationMask) (reason : Byte) :
    (s.takeHalt sender mask reason).halt =
      if maskHas mask s.own then s.halt.addOrigin sender (haltReasonOf reason) else s.halt := by
  unfold State.takeHalt
  split
  · exact s.addOrigin_halt sender _
  · rfl

theorem State.takeResume_halt (s : State) (sender : Nat) (mask : StationMask) :
    (s.takeResume sender mask).halt =
      if s.cfg.deskSet.contains sender && maskHas mask s.own then s.halt.resumed s.own s.estopInput else s.halt := by
  unfold State.takeResume
  split
  · exact s.resume_cases.1
  · rfl

theorem State.takeDemand_halt (s : State) (sender : Nat) (kind : Byte) (number : Word16) :
    (s.takeDemand sender kind number).halt = s.halt := by
  unfold State.takeDemand
  split
  · exact s.receiveDemand_halt _
  · rfl

theorem State.takeQuery_halt (s : State) (sender target : Nat) : (s.takeQuery sender target).halt = s.halt := by
  unfold State.takeQuery
  split <;> rfl

theorem HaltRecord.has_resumed_live (h : HaltRecord) (own : Nat) (estop : Bool) {c : LocalCause}
    (hc : c.isLive = true) : (h.resumed own estop).has c = h.has c := by
  rw [HaltRecord.has_of_live _ hc, HaltRecord.has_of_live _ hc, HaltRecord.resumed_live]

/-- Taking a RESUME keeps the laws: what is left of the record is its live causes (R116). -/
theorem State.haltFits_resumed {s t : State} (running : s.isRunning = true) (hs : s.haltFits) (h : t.still = s.still)
    (hhalt : t.halt = s.halt.resumed s.own s.estopInput) : t.haltFits := by
  have hown := State.own_of_haltFits hs running
  refine State.haltFits_of_record h running hs ?_ ?_ ?_ <;> rw [hhalt]
  · exact (State.kept_of_haltFits hs).resumed (by omega) _
  · exact HaltRecord.has_resumed_live _ _ _ rfl
  · exact HaltRecord.has_resumed_live _ _ _ rfl

/-- An origin from 1..31 keeps the laws. -/
theorem State.haltFits_addOrigin {s t : State} {n : Nat} {r : HaltReason} (running : s.isRunning = true) (hn : n < 32)
    (hs : s.haltFits) (h : t.still = s.still) (hhalt : t.halt = s.halt.addOrigin n r) : t.haltFits := by
  refine State.haltFits_of_record h running hs ?_ ?_ ?_ <;> rw [hhalt]
  · exact (State.kept_of_haltFits hs).addOrigin hn r
  · exact HaltRecord.has_addOrigin _ _ _ _
  · exact HaltRecord.has_addOrigin _ _ _ _

/-- The laws read nothing of a demand or of a peer entry. -/
theorem State.haltFits_of_fixed {s t : State} (hfixed : t.still.fixed = s.still.fixed)
    (hinputs : t.inputs = s.inputs) (hfailed : t.bothFailed = s.bothFailed) (hhalt : t.halt = s.halt)
    (hs : s.haltFits) : t.haltFits := by
  have hstage : t.stage = s.stage := congrArg Fixed.stage hfixed
  have hcfg : t.cfg = s.cfg := congrArg Fixed.cfg hfixed
  have hloader : t.loader = s.loader := congrArg Fixed.loader hfixed
  simpa only [State.haltFits, State.configured, State.isRunning, State.own, State.halted, State.causePresent,
    State.estopInput, State.gi, hstage, hcfg, hloader, hinputs, hfailed, hhalt] using hs

theorem State.handOn_haltFits {s : State} {sender : Nat} (body : TelegramBody) (running : s.isRunning = true)
    (hsender : sender < 32) (hs : s.haltFits) : (s.handOn sender body).haltFits := by
  cases body with
  | halt mask reason =>
    show (s.takeHalt sender mask reason).haltFits
    have hstill := s.takeHalt_still sender mask reason
    have hhalt := s.takeHalt_halt sender mask reason
    split at hhalt
    · exact State.haltFits_addOrigin running hsender hs hstill hhalt
    · exact State.haltFits_of_still hstill hhalt hs
  | resume mask =>
    show (s.takeResume sender mask).haltFits
    have hstill := s.takeResume_still sender mask
    have hhalt := s.takeResume_halt sender mask
    split at hhalt
    · exact State.haltFits_resumed running hs hstill hhalt
    · exact State.haltFits_of_still hstill hhalt hs
  | demand kind number =>
    have hstill := s.takeDemand_still sender kind number
    refine State.haltFits_of_fixed (t := s.takeDemand sender kind number) (by rw [hstill]; rfl)
      (congrArg Still.inputs hstill) ?_ (s.takeDemand_halt sender kind number) hs
    exact (State.Filled.of_mail (kinds := []) (s.takeDemand_mail sender kind number)).bothFailed
  | query target =>
    exact State.haltFits_of_still (s.takeQuery_still sender target.toNat) (s.takeQuery_halt sender target.toNat) hs
  | status body => exact hs
  | record bytes => exact hs

theorem State.Delivered.keeps_haltFits {s d : State} {l : Link} {captured : Nat} {t : Telegram}
    (h : s.Delivered l captured t d) (running : s.isRunning = true) (hs : s.haltFits) : d.haltFits := by
  cases h with
  | dropped => exact hs
  | own => exact State.raiseCause_haltFits running rfl hs
  | handed known => exact State.handOn_haltFits _ running (by omega) hs
  | status known other i body =>
    have hstill := s.acceptStatus_still i l captured t.seq body
    refine State.haltFits_of_fixed (by rw [hstill]; rfl) (congrArg Still.inputs hstill) ?_
      (s.acceptStatus_halt i l captured t.seq body) hs
    exact (State.Filled.of_mail (kinds := []) (s.acceptStatus_mail i l captured t.seq body)).bothFailed
  | taken known other i =>
    exact State.handOn_haltFits (s := s.setPeer i (s.peers[i].takeOther t.seq t.body)) _ running (by omega) hs

/-- A change of a link's count: ISOLATED is present exactly while both links are FAILED (R113, R160). -/
theorem State.setHealth_haltFits {s : State} (l : Link) (n : Nat) (running : s.isRunning = true) (hs : s.haltFits) :
    (s.setHealth l n).haltFits := by
  have hown := State.own_of_haltFits hs running
  obtain ⟨hconfigured, -, hkept, hisolated, hestop⟩ := (State.haltFits_iff s).mp hs
  have hrunning : (s.setLink l ((s.link l).judge n)).isRunning = true := by simpa [State.isRunning] using running
  have law (t : State) (hstill : t.still = (s.setLink l ((s.link l).judge n)).still) (hk : t.halt.Kept s.own)
      (hi : t.halt.has .isolated = (s.setLink l ((s.link l).judge n)).bothFailed)
      (he : t.halt.has .estop = s.halt.has .estop) : t.haltFits := by
    have hinput : t.estopInput = s.estopInput := (State.gi_of_still hstill 0).trans (by simp [State.estopInput, State.gi])
    have hown' : t.own = s.own := (State.own_of_still hstill).trans (by simp [State.own])
    rw [State.haltFits_iff, State.isRunning_of_still hstill, hrunning, State.bothFailed_of_still hstill, hown', hinput]
    exact ⟨fun _ => hown, (fun h => by cases h), hk, hi, fun _ => he.trans (hestop running)⟩
  rcases s.setHealth_cases l n with ⟨hb, h⟩ | ⟨hb, -, h⟩ | ⟨hb, hwas, h⟩ <;> rw [h]
  · refine law _ (State.raiseCause_still _ _) ?_ ?_ ?_ <;> rw [State.raiseCause_halt, State.setLink_halt]
    · rw [State.own, State.setLink_cfg]
      exact hkept.raise (show s.own < 32 by omega) _
    · rw [HaltRecord.has_raise, hb]
      simp
    · rw [HaltRecord.has_raise]
      simp
  · refine law _ (State.removeLive_still _ _) ?_ ?_ ?_
    · simpa [State.removeLive] using hkept.removeLive .isolated
    · rw [hb, HaltRecord.has_of_live _ rfl]
      simp [State.removeLive, causeHas_causeRemove]
    · rw [HaltRecord.has_of_live _ rfl, HaltRecord.has_of_live _ rfl]
      simp [State.removeLive, causeHas_causeRemove]
  · refine law _ rfl (by simpa using hkept) ?_ (by simp)
    rw [hb, State.setLink_halt, hisolated, hwas]

theorem State.setLink_haltFits {s : State} {l : Link} {c : LinkController} (hc : c.failed = (s.link l).failed)
    (hs : s.haltFits) : (s.setLink l c).haltFits := by
  refine State.haltFits_of_fixed (s.setLink_fixed l c) (s.setLink_inputs l c) ?_ (s.setLink_halt l c) hs
  cases l <;> simp only [State.bothFailed, State.setLink] <;> rw [hc] <;> rfl

theorem State.countValid_haltFits {s : State} (l : Link) (running : s.isRunning = true) (hs : s.haltFits) :
    (s.countValid l).haltFits := by
  have hended : (s.endReception l).haltFits := State.setLink_haltFits rfl hs
  have hrestarted : ((s.endReception l).restartSilence l).haltFits := State.setLink_haltFits rfl hended
  exact State.setHealth_haltFits l _ (by simpa [State.isRunning, State.restartSilence, State.endReception] using running)
    hrestarted

/-! ### The record at a recognized input -/

theorem State.setInput_haltFits {s : State} {i : Fin 16} (x : InputLine) (hi : i ≠ 0) (hs : s.haltFits) :
    (s.setInput i x).haltFits := by
  have hline : (s.setInput i x).estopInput = s.estopInput := by
    have hne : i.val ≠ 0 := fun h => hi (Fin.ext h)
    simp [State.estopInput, State.gi, hne]
  rw [State.haltFits_iff] at hs ⊢
  rw [hline]
  exact hs

theorem State.keyActive_halt (s : State) : s.keyActive.halt = s.halt := by
  unfold State.keyActive
  split
  · split
    · exact s.discardInterrupted_halt
    · rfl
  · rfl

theorem State.rebuild_halt (s : State) (encoder : Option Word16) : (s.rebuild encoder).halt = s.halt := by
  unfold State.rebuild
  split <;> rfl

theorem State.handButtonChanged_halt (s : State) (m : HandMove) (active : Bool) :
    (s.handButtonChanged m active).halt = s.halt := by
  unfold State.handButtonChanged State.beginHandMove
  split
  · split <;> simp
  · split
    · dsimp only
      split <;> rfl
    · rfl

theorem State.pressDemand_halt (s : State) (k : DemandKind) : (s.pressDemand k).halt = s.halt := by
  rcases s.pressDemand_cases k with ⟨-, h⟩ | ⟨-, -, h⟩ | ⟨-, -, h⟩ <;> rw [h]
  rw [State.formTelegram_halt]
  exact State.adopt_halt _ _

theorem State.leaveHand_halt (s : State) (encoder : Option Word16) : (s.leaveHand encoder).halt = s.halt :=
  (State.rebuild_halt _ _).trans s.endHandMove_halt

theorem State.leaveHand_still (s : State) (encoder : Option Word16) :
    (s.leaveHand encoder).still =
      { s.still with level := { s.still.level with height := (s.leaveHand encoder).level.height } } := by
  have h := State.rebuild_still
    ({ s.endHandMove with hand := { s.endHandMove.hand with state := .off } } : State) encoder
  rwa [show ({ s.endHandMove with hand := { s.endHandMove.hand with state := .off } } : State).still = s.still from
    s.endHandMove_still] at h

/-- The laws read nothing of the level controller. -/
theorem State.haltFits_of_level {s t : State} {v : LevelStill} (h : t.still = { s.still with level := v })
    (hhalt : t.halt = s.halt) (hs : s.haltFits) : t.haltFits := by
  refine State.haltFits_of_fixed (by rw [h]; rfl) (congrArg Still.inputs h) ?_ hhalt hs
  rw [State.bothFailed, State.bothFailed,
    LinkController.failed_of_still (show t.linkA.still = s.linkA.still from congrArg Still.linkA h),
    LinkController.failed_of_still (show t.linkB.still = s.linkB.still from congrArg Still.linkB h)]

theorem State.keyInactive_haltFits {s : State} (encoder : Option Word16) (running : s.isRunning = true)
    (hs : s.haltFits) : (s.keyInactive encoder).haltFits := by
  cases hstate : s.hand.state with
  | off => rwa [State.keyInactive_of_off hstate]
  | pending =>
    rw [State.keyInactive_of_pending hstate]
    exact hs
  | hand =>
    have hstill := s.leaveHand_still encoder
    have hleft : (s.leaveHand encoder).haltFits := State.haltFits_of_level hstill (s.leaveHand_halt encoder) hs
    have hrunning : (s.leaveHand encoder).isRunning = true := by
      rwa [State.isRunning, show (s.leaveHand encoder).stage = s.stage from congrArg Still.stage hstill]
    rw [State.keyInactive_of_hand hstate]
    split
    · exact State.raiseCause_haltFits hrunning rfl hleft
    · exact hleft

theorem State.buttonChanged_haltFits {s : State} (m : HandMove) (k : DemandKind) (active : Bool) (hs : s.haltFits) :
    (s.buttonChanged m k active).haltFits := by
  unfold State.buttonChanged
  split
  · split
    · refine State.haltFits_of_fixed (by rw [State.pressDemand_still]; rfl)
        (congrArg Still.inputs (s.pressDemand_still k)) (s.pressDemand_filled k).bothFailed (s.pressDemand_halt k) hs
    · exact hs
  · exact hs
  · exact State.haltFits_of_still (s.handButtonChanged_still m active) (s.handButtonChanged_halt m active) hs

theorem State.detectorChanged_haltFits {s : State} (k : Nat) (active : Bool) (hs : s.haltFits) :
    (s.detectorChanged k active).haltFits := by
  unfold State.detectorChanged
  split <;> exact hs

theorem State.pressHalt_haltFits {s : State} (running : s.isRunning = true) (hs : s.haltFits) : s.pressHalt.haltFits := by
  unfold State.pressHalt
  split
  · exact State.haltFits_of_still (s.formHalt_still _) (s.formHalt_halt _) hs
  · exact State.raiseCause_haltFits running rfl hs

@[simp] theorem State.formResume_halt (s : State) : s.formResume.halt = s.halt := by
  unfold State.formResume
  split <;> simp

theorem State.pressResume_halt (s : State) : s.pressResume.halt = s.halt.resumed s.own s.estopInput :=
  s.resume.formResume_halt.trans s.resume_cases.1

theorem State.pressResume_haltFits {s : State} (running : s.isRunning = true) (hs : s.haltFits) :
    s.pressResume.haltFits :=
  State.haltFits_resumed running hs (by simp [State.pressResume]) s.pressResume_halt

/-- An input other than ESTOP recognized as changed keeps the laws. -/
theorem State.inputChanged_haltFits {s : State} {i : Fin 16} (hi : i ≠ 0) (active : Bool) (encoder : Option Word16)
    (running : s.isRunning = true) (hs : s.haltFits) : (s.inputChanged i active encoder).haltFits := by
  unfold State.inputChanged
  split
  next h0 => exact absurd (Fin.ext h0) hi
  · split
    · split
      · exact State.haltFits_of_still s.keyActive_still s.keyActive_halt hs
      · exact State.keyInactive_haltFits encoder running hs
    · exact hs
  · exact State.buttonChanged_haltFits _ _ _ hs
  · exact State.buttonChanged_haltFits _ _ _ hs
  · split
    · exact State.pressHalt_haltFits running hs
    · exact hs
  · split
    · exact State.pressResume_haltFits running hs
    · exact hs
  · exact State.detectorChanged_haltFits _ _ hs
  · exact State.detectorChanged_haltFits _ _ hs
  · exact State.detectorChanged_haltFits _ _ hs
  · exact State.detectorChanged_haltFits _ _ hs
  · exact hs

/-- ESTOP recognized as changed: its live cause follows it (R113). -/
theorem State.estopChanged_haltFits {s : State} (x : InputLine) (encoder : Option Word16)
    (running : s.isRunning = true) (hs : s.haltFits) :
    ((s.setInput 0 x).inputChanged 0 x.level encoder).haltFits := by
  have hown := State.own_of_haltFits hs running
  obtain ⟨hconfigured, -, hkept, hisolated, -⟩ := (State.haltFits_iff s).mp hs
  have hline : (s.setInput 0 x).estopInput = x.level := by simp [State.estopInput, State.gi]
  have law (t : State) (hstill : t.still = (s.setInput 0 x).still) (hk : t.halt.Kept s.own)
      (hi : t.halt.has .isolated = s.halt.has .isolated) (he : t.halt.has .estop = x.level) : t.haltFits := by
    have hrunning : t.isRunning = true := (State.isRunning_of_still hstill).trans running
    rw [State.haltFits_iff, hrunning, State.bothFailed_of_still hstill, State.own_of_still hstill,
      State.estopInput, State.gi_of_still hstill 0]
    exact ⟨fun _ => hown, (fun h => by cases h), hk, hi.trans hisolated, fun _ => he.trans hline.symm⟩
  cases hx : x.level with
  | true =>
    have hhalt := (s.setInput 0 x).raiseCause_halt .estop
    refine law ((s.setInput 0 x).raiseCause .estop) (State.raiseCause_still _ _) ?_ ?_ ?_ <;> rw [hhalt]
    · exact hkept.raise (by omega) _
    · rw [HaltRecord.has_raise]
      simp
    · rw [HaltRecord.has_raise, hx]
      simp
  | false =>
    refine law ((s.setInput 0 x).removeLive .estop) rfl (hkept.removeLive .estop) ?_ ?_
    · rw [HaltRecord.has_of_live _ rfl, HaltRecord.has_of_live _ rfl]
      simp [State.removeLive, causeHas_causeRemove]
    · rw [HaltRecord.has_of_live _ rfl, hx]
      simp [State.removeLive, causeHas_causeRemove]

/-! ### The record at a control period expiry -/

theorem State.fullComputation_haltFits {s : State} (w : ControlWork) (up : Bool) (running : s.isRunning = true)
    (hs : s.haltFits) : (s.fullComputation w up).haltFits := by
  by_cases htrip : s.cfg.skewTrip < skewOf s.level.height s.peerHeights
  · rw [State.fullComputation_of_trip w up htrip]
    exact State.raiseCause_haltFits (s := s.throughSkew) running rfl (State.haltFits_of_still rfl rfl hs)
  · rw [State.fullComputation_of_no_trip w up (not_lt.mp htrip)]
    have hreference : (s.throughReference w up).haltFits := State.haltFits_of_still rfl rfl hs
    have hseating : (s.throughReference w up).judgeSeating.haltFits :=
      State.haltFits_of_still (s := s.throughReference w up) rfl rfl hreference
    have hrunning : (s.throughReference w up).judgeSeating.isRunning = true := running
    rcases (s.throughReference w up).endOfTravel_cases with ⟨-, h⟩ | ⟨-, h⟩ | h <;> rw [h]
    · exact State.raiseCause_haltFits hrunning rfl hseating
    · exact State.haltFits_of_still (s := (s.throughReference w up).judgeSeating) rfl rfl hseating
    · exact hseating

theorem State.ControlDone.keeps_haltFits {s t : State} (h : s.ControlDone t) (running : s.isRunning = true)
    (hs : s.haltFits) : t.haltFits := by
  cases h with
  | none => exact hs
  | skewOnly => exact hs
  | full w up => exact State.fullComputation_haltFits w up running hs

theorem State.controlExpiry_haltFits {s : State} (encoder : Option Word16) (running : s.isRunning = true)
    (hs : s.haltFits) : (s.controlExpiry encoder).haltFits := by
  cases encoder with
  | none => exact State.raiseCause_haltFits (s := s.noComputation) running rfl hs
  | some h => exact (s.controlExpiry_some h).keeps_haltFits running hs

/-! ### The statement -/

theorem State.Event.keeps_haltFits {s t : State} (h : s.Event t) (running : s.isRunning = true) (hs : s.haltFits) :
    t.haltFits := by
  cases h with
  | input i encoder due changed =>
    by_cases hi : i = 0
    · subst hi
      exact State.estopChanged_haltFits _ encoder running hs
    · exact State.inputChanged_haltFits hi _ encoder running (State.setInput_haltFits _ hi hs)
  | troubled l =>
    exact State.setHealth_haltFits l _ (by simpa [State.isRunning, State.endReception] using running)
      (State.setLink_haltFits rfl hs)
  | damaged l =>
    exact State.setHealth_haltFits l _ (by simpa [State.isRunning] using running) (State.setLink_haltFits rfl hs)
  | silent l =>
    exact State.setHealth_haltFits l _ (by simpa [State.isRunning, State.restartSilence] using running)
      (State.setLink_haltFits rfl hs)
  | counted l check => exact State.countValid_haltFits l running hs
  | delivered l tel =>
    have hstage : (s.countValid l).stage = s.stage := congrArg Fixed.stage (s.countValid_fixed l)
    exact (State.deliver_delivered _ _ _ _).keeps_haltFits (by rwa [State.isRunning, State.counted, hstage])
      (State.countValid_haltFits l running hs)
  | sent l a =>
    refine State.setHealth_haltFits l _ (by simpa [State.isRunning] using running) (State.setLink_haltFits ?_ hs)
    unfold LinkController.sent
    dsimp only
    split
    · rfl
    · cases a.slot <;> rfl
  | deadline i => exact hs
  | stalled => exact hs
  | supervised => exact State.raiseCause_haltFits (s := s.endStep) running rfl hs
  | prewarned => exact hs
  | cleared => exact hs
  | ambered => exact hs
  | recovered => exact hs
  | control encoder => exact State.controlExpiry_haltFits (s := s.nextControlPeriod) encoder running hs
  | checked i current => exact hs
  | retried i => exact hs
  | boundary => exact hs

/-- The causes raised at one event are present after it, with those that were before it. -/
theorem State.has_raiseCauses (s : State) (cs : List LocalCause) (d : LocalCause) :
    (s.raiseCauses cs).halt.has d = (s.halt.has d || decide (d ∈ cs)) := by
  have folds (ds : List LocalCause) (t : State) :
      (ds.foldl State.raiseCause t).halt.has d = (t.halt.has d || decide (d ∈ ds)) := by
    induction ds generalizing t with
    | nil => simp
    | cons c ds ih => rw [List.foldl_cons, ih, State.raiseCause_halt, HaltRecord.has_raise]; simp [Bool.or_assoc]
  unfold State.raiseCauses
  split
  · simp
  · simp [State.raiseCause_halt, HaltRecord.has_raise]
  · dsimp only
    rw [folds]
    split <;> simp

theorem State.raiseCauses_kept {s : State} (cs : List LocalCause) (hown : s.own < 32) (hs : s.halt.Kept s.own) :
    (s.raiseCauses cs).halt.Kept s.own := by
  refine (State.raiseCauses_keeps (P := fun t => t.own = s.own ∧ t.halt.Kept s.own) cs (fun _ h => h)
    (fun t c _ ht => ?_) s ⟨rfl, hs⟩).2
  rw [State.raiseCause_halt, ht.1]
  exact ⟨(State.own_of_still (t.raiseCause_still c)).trans ht.1, ht.2.raise hown c⟩

theorem State.entering_halt (s : State) (encoder : Option Word16) (ambient : Byte) :
    (s.entering encoder ambient).halt = s.halt := by
  have hrole (q : State) : (q.startRole encoder).halt = q.halt := by
    have h := q.rebuild_halt encoder
    unfold State.startRole
    dsimp only
    split <;> exact h
  exact hrole _

theorem State.startKey_halt (s : State) : s.startKey.halt = s.halt := by
  unfold State.startKey
  split
  · exact State.keyActive_halt _
  · rfl

theorem State.mem_startCauses {s : State} {encoder : Option Word16} {c : LocalCause} :
    c ∈ s.startCauses encoder ↔
      c = .estop ∧ s.estopInput = true ∨ c = .encoder ∧ s.role = .hoist ∧ encoder = none := by
  unfold State.startCauses
  cases s.estopInput <;> cases encoder <;> cases h : s.role == Role.hoist <;> simp_all

/-- The causes of the entry into RUN, an active ESTOP among them, keep the laws. -/
theorem State.entered_haltFits {s : State} (encoder : Option Word16) (ambient : Byte) (starting : s.stage = .starting)
    (due : s.loader.start.due s.clock = true) (hs : s.haltFits) : (s.entered encoder ambient).haltFits := by
  obtain ⟨hconfigured, hidle, -, -, -⟩ := (State.haltFits_iff s).mp hs
  obtain ⟨hempty, hworking⟩ := hidle (by simp [State.isRunning, starting])
  have hown := hconfigured (by simp [State.configured, Timer.isRunning_of_due due])
  have hstill := s.entering_still encoder ambient
  have hown' : (s.entering encoder ambient).own = s.own := congrArg (·.cfg.station) hstill
  have hrunning : (s.entering encoder ambient).isRunning = true := by
    rw [State.isRunning_eq_true_iff]
    exact congrArg Still.stage hstill
  have hfailed : (s.entering encoder ambient).bothFailed = false := by
    rw [← hworking, State.bothFailed, State.bothFailed, LinkController.failed, LinkController.failed,
      show (s.entering encoder ambient).linkA.state = s.linkA.state from congrArg (·.linkA.state) hstill,
      show (s.entering encoder ambient).linkB.state = s.linkB.state from congrArg (·.linkB.state) hstill]
    rfl
  have hhalt : (s.entering encoder ambient).halt = {} := (s.entering_halt encoder ambient).trans hempty
  have hraised : ((s.entering encoder ambient).raiseCauses
      ((s.entering encoder ambient).startCauses encoder)).haltFits := by
    rw [State.haltFits_iff, State.isRunning_of_still (State.raiseCauses_still _ _), hrunning,
      State.own_of_still (State.raiseCauses_still _ _), State.bothFailed_of_still (State.raiseCauses_still _ _),
      State.estopInput, State.gi_of_still (State.raiseCauses_still _ _), hfailed]
    refine ⟨fun _ => hown' ▸ hown, (fun h => by cases h), ?_, ?_, fun _ => ?_⟩
    · exact State.raiseCauses_kept _ (by omega) (hhalt ▸ HaltRecord.kept_empty _)
    · rw [State.has_raiseCauses, hhalt]
      simp [State.mem_startCauses, HaltRecord.has, causeHas]
    · rw [State.has_raiseCauses, hhalt]
      simp [State.mem_startCauses, HaltRecord.has, causeHas, State.estopInput]
  exact State.haltFits_of_still (State.startKey_still _) (State.startKey_halt _) hraised

theorem State.enterRun_haltFits {s : State} (encoder : Option Word16) (ambient : Byte) (starting : s.stage = .starting)
    (due : s.loader.start.due s.clock = true) (hs : s.haltFits) : (s.enterRun encoder ambient).haltFits := by
  have hrunning : (s.entered encoder ambient).isRunning = true := by
    rw [State.isRunning_eq_true_iff]
    have hstill : (s.entered encoder ambient).still = (s.entering encoder ambient).still := by simp [State.entered]
    exact (congrArg Still.stage hstill).trans (congrArg Still.stage (s.entering_still encoder ambient))
  rw [State.enterRun_eq]
  exact State.haltFits_of_still (State.formStatus_still _) (State.formStatus_halt _)
    (State.react_haltFits false hrunning (State.entered_haltFits encoder ambient starting due hs))

theorem State.station_of_load {image : List Byte} {c : StationConfig} (h : loadImage image = some c) :
    1 ≤ c.station ∧ c.station ≤ 30 := by
  unfold loadImage at h
  split at h
  next hacc =>
    obtain ⟨role, -, rfl⟩ := Option.map_eq_some_iff.mp h
    simp only [imageAccepted, Bool.and_eq_true] at hacc
    obtain ⟨⟨-, hstation⟩, -⟩ := hacc
    unfold configuredStation at hstation
    split at hstation
    next hrange => exact hrange
    next => cases hstation
  next => cases h

theorem State.Outcome.keeps_haltFits {s t : State} {cmd : Instr} (hs : s.haltFits) (h : s.Outcome cmd t) : t.haltFits := by
  cases h with
  | same => exact hs
  | started strap1 strap2 =>
    simp [State.haltFits_iff, State.startUp, State.inReset, State.configured, State.isRunning, Timer.isRunning,
      State.bothFailed, LinkController.failed, HaltRecord.has, causeHas, LocalCause.isLive]
    exact HaltRecord.kept_empty _
  | reset =>
    simp [State.haltFits_iff, State.inReset, State.configured, State.isRunning, Timer.isRunning,
      State.bothFailed, LinkController.failed, HaltRecord.has, causeHas, LocalCause.isLive]
    exact HaltRecord.kept_empty _
  | refused check reading =>
    obtain ⟨-, hidle, hlaws⟩ := hs
    have hoff := hidle (State.reading_notRunning reading)
    obtain ⟨hhalted, hreason, hcause, hisolated, -⟩ := hlaws
    exact ⟨fun h => by simp [State.configured, State.failLoad, State.isRunning, Timer.isRunning] at h, fun _ => hoff,
      hhalted, hreason, fun h => by simp [State.causePresent, State.failLoad, hoff.1] at h, hisolated,
      fun h => by simp [State.failLoad, State.isRunning] at h⟩
  | loaded check reading image c accepted =>
    obtain ⟨-, hidle, hlaws⟩ := hs
    have hoff := State.reading_notRunning reading
    obtain ⟨hhalted, hreason, hcause, hisolated, -⟩ := hlaws
    exact ⟨fun _ => State.station_of_load accepted, fun _ => hidle hoff, hhalted, hreason,
      fun h => by simp [State.causePresent, State.acceptImage, (hidle hoff).1] at h, hisolated,
      fun h => absurd (hoff.symm.trans h) (by decide)⟩
  | entered encoder ambient starting due => exact State.enterRun_haltFits encoder ambient starting due hs
  | line i x level =>
    have hline : (s.setInput i x).estopInput = s.estopInput := by
      by_cases hi : i.val = 0
      · obtain rfl : i = 0 := Fin.ext hi
        simpa [State.estopInput, State.gi] using level
      · simp [State.estopInput, State.gi, hi]
    rw [State.haltFits_iff] at hs ⊢
    rw [hline]
    exact hs
  | heard l => exact State.setLink_haltFits rfl hs
  | begun l k tel => exact State.setLink_haltFits (l := l) rfl hs
  | outbid l a => exact State.setLink_haltFits rfl hs
  | beat f => exact hs
  | status f => exact State.haltFits_of_still (State.formStatus_still _) (State.formStatus_halt _) hs
  | sampled a => exact hs
  | patterned => exact hs
  | idled => exact hs
  | event check after running h =>
    have hafter : after.isRunning = true := by
      rwa [State.isRunning, show after.stage = s.stage from congrArg Fixed.stage h.fixed]
    exact State.conclude_haltFits _ hafter (h.keeps_haltFits running hs)

theorem State.tick_haltFits {s : State} (hs : s.haltFits) : s.tick.haltFits := by
  unfold State.tick
  split <;> exact hs

/-- Settles O55: an origin, a cause and a RESUME keep the record (`HaltRecord.Kept`), the live causes follow their
conditions at the events that change these, and a reaction raises latched causes alone. -/
theorem stepKeepsHaltRecord : Obligations.StepKeepsHaltRecord := by
  intro s t hs h
  exact State.step_keeps (P := State.haltFits) (fun _ _ h => h) (fun _ => State.tick_haltFits)
    (fun _ _ _ => State.Outcome.keeps_haltFits) hs h

end Sys2Proof.Machine

/-!
PROOFS. What an event can do to the machinery: the parts that the laws of motion and of the journal read
(`State.working`), and the few operations by which an event changes them (`State.Works`).
-/

namespace Sys2Proof.Machine

/-! ### The machinery -/

/-- The parts that the laws of motion, of the hand panel and of the journal read. -/
structure Working where
  stage : Stage
  cfg : StationConfig
  origins : StationMask
  hand : HandPanel
  seq : Sequencer
  recovering : Bool
  accumulator : Int
  speedRef : Int

/-- The machinery of a state. -/
def State.working (s : State) : Working :=
  { stage := s.stage, cfg := s.cfg, origins := s.halt.origins, hand := s.hand, seq := s.seq,
    recovering := s.signal.recovering, accumulator := s.level.accumulator, speedRef := s.level.speedRef }

@[simp] theorem State.setLink_working (s : State) (l : Link) (c : LinkController) :
    (s.setLink l c).working = s.working := by
  cases l <;> rfl

@[simp] theorem State.formTelegram_working (s : State) (k : SlotKind) (b : TelegramBody) :
    (s.formTelegram k b).working = s.working := rfl

@[simp] theorem State.formHalt_working (s : State) (r : HaltReason) : (s.formHalt r).working = s.working := by
  unfold State.formHalt
  split <;> rfl

@[simp] theorem State.formResume_working (s : State) : s.formResume.working = s.working := by
  unfold State.formResume
  split <;> rfl

@[simp] theorem State.followReference_working (s : State) : s.followReference.working = s.working := by
  unfold State.followReference
  dsimp only
  split <;> rfl

theorem State.recordStatus_working (s : State) (i : Fin 16) (p : PeerEntry) (fits : Bool) (stamp captured : Nat) :
    (s.recordStatus i p fits stamp captured).working = s.working := by
  unfold State.recordStatus
  split <;> exact (s.reported i p fits).followReference_working

@[simp] theorem State.detectorChanged_working (s : State) (k : Nat) (active : Bool) :
    (s.detectorChanged k active).working = s.working := by
  unfold State.detectorChanged
  split <;> rfl

@[simp] theorem State.formStatus_working (s : State) : s.formStatus.working = s.working := by
  unfold State.formStatus
  split <;> rfl

@[simp] theorem State.noteChange_working (s : State) (b : Bool) : (s.noteChange b).working = s.working := by
  rcases s.noteChange_cases b with h | ⟨-, h⟩ <;> rw [h]
  · rfl
  · exact s.formStatus_working

/-- The end of an event leaves the machinery as the reactions leave it. -/
theorem State.conclude_working (before after : State) :
    (State.conclude before after).working = (after.react (before.reversalStopped after)).working := by
  rcases State.conclude_cases before after with h | h <;> rw [h]
  exact State.noteChange_working _ _

/-! ### What an event does to it -/

/-- The states that the operations of an event can make of a state, as far as the machinery goes. -/
inductive State.Works (s : State) : State → Prop
  | refl : s.Works s
  | congr {t u : State} (h : s.Works t) (same : u.working = t.working) : s.Works u
  | raised {t : State} (h : s.Works t) (c : LocalCause) : s.Works (t.raiseCause c)
  | joined {t : State} (h : s.Works t) (n : Nat) (known : n < 32) (r : HaltReason) : s.Works (t.addOrigin n r)
  | resumed {t : State} (h : s.Works t) : s.Works t.resume
  | ended {t : State} (h : s.Works t) : s.Works t.endStep
  | completed {t : State} (h : s.Works t) (st : Step) (now : t.stepNow = some st) : s.Works (t.completeStep st)
  | reversed {t : State} (h : s.Works t) : s.Works t.stopTravel
  | key {t : State} (h : s.Works t) (panel : t.role.hasHandPanel = true) : s.Works t.keyActive
  | cancelled {t : State} (h : s.Works t) (pending : t.hand.state = .pending) :
      s.Works { t with hand := { t.hand with state := .off } }
  | left {t : State} (h : s.Works t) (inHand : t.hand.state = .hand) (encoder : Option Word16) :
      s.Works (t.leaveHand encoder)
  | moved {t : State} (h : s.Works t) (m : HandMove) (inHand : t.inHand = true) (still : t.hand.move = none)
      (taken : t.handMoveRefused m = false) : s.Works (t.beginHandMove m)
  | handEnded {t : State} (h : s.Works t) : s.Works t.endHandMove
  | recovered {t : State} (h : s.Works t) (recovering : t.inRecovery = true) : s.Works t.endRecovery
  | rested {t : State} (h : s.Works t) : s.Works t.noComputation
  | tripped {t : State} (h : s.Works t) : s.Works t.throughSkew
  | referenced {t : State} (h : s.Works t) (w : ControlWork) (up : Bool) (work : t.controlWork = w)
      (kind : w = .travel up ∨ w = .stopping up ∨ w = .hand up) : s.Works (t.throughReference w up)

/-- The machinery as it was. -/
theorem State.Works.of_eq {s t : State} (h : t.working = s.working) : s.Works t := .congr .refl h

theorem State.Works.trans {s t u : State} (hst : s.Works t) (htu : t.Works u) : s.Works u := by
  induction htu with
  | refl => exact hst
  | congr _ same ih => exact .congr ih same
  | raised _ c ih => exact .raised ih c
  | joined _ n known r ih => exact .joined ih n known r
  | resumed _ ih => exact .resumed ih
  | ended _ ih => exact .ended ih
  | completed _ st now ih => exact .completed ih st now
  | reversed _ ih => exact .reversed ih
  | key _ panel ih => exact .key ih panel
  | cancelled _ pending ih => exact .cancelled ih pending
  | left _ inHand encoder ih => exact .left ih inHand encoder
  | moved _ m inHand still taken ih => exact .moved ih m inHand still taken
  | handEnded _ ih => exact .handEnded ih
  | recovered _ recovering ih => exact .recovered ih recovering
  | rested _ ih => exact .rested ih
  | tripped _ ih => exact .tripped ih
  | referenced _ w up work kind ih => exact .referenced ih w up work kind

/-- What starts from the machinery of a state starts from the state. -/
theorem State.Works.from {s t u : State} (h : t.Works u) (same : t.working = s.working) : s.Works u :=
  (State.Works.of_eq same).trans h

theorem State.setHealth_works (s : State) (l : Link) (n : Nat) : s.Works (s.setHealth l n) := by
  have hjudged : s.Works (s.setLink l ((s.link l).judge n)) := .of_eq (s.setLink_working l _)
  rcases s.setHealth_cases l n with ⟨-, h⟩ | ⟨-, -, h⟩ | ⟨-, -, h⟩ <;> rw [h]
  · exact .raised hjudged _
  · exact .congr hjudged rfl
  · exact hjudged

theorem State.countValid_works (s : State) (l : Link) : s.Works (s.countValid l) :=
  (State.Works.of_eq ((State.setLink_working _ l _).trans (s.setLink_working l _))).trans (State.setHealth_works _ l _)

theorem State.adopt_works (s : State) (d : Demand) : s.Works (s.adopt d) := by
  unfold State.adopt
  dsimp only
  split
  · split
    · exact .of_eq rfl
    · exact .reversed (.of_eq rfl)
  · exact .of_eq rfl

theorem State.receiveDemand_works (s : State) (d : Demand) : s.Works (s.receiveDemand d) := by
  rcases s.receiveDemand_cases d with ⟨-, h⟩ | ⟨-, h⟩ <;> rw [h]
  · exact .refl
  · exact s.adopt_works d

theorem State.handOn_works (s : State) (sender : Nat) (known : sender < 32) (body : TelegramBody) :
    s.Works (s.handOn sender body) := by
  cases body with
  | halt mask reason =>
    show s.Works (s.takeHalt sender mask reason)
    unfold State.takeHalt
    split
    · exact .joined .refl _ known _
    · exact .refl
  | resume mask =>
    show s.Works (s.takeResume sender mask)
    unfold State.takeResume
    split
    · exact .resumed .refl
    · exact .refl
  | demand kind number =>
    show s.Works (s.takeDemand sender kind number)
    unfold State.takeDemand
    split
    · exact s.receiveDemand_works _
    · exact .refl
  | query target =>
    show s.Works (s.takeQuery sender target.toNat)
    unfold State.takeQuery
    split
    · exact .of_eq rfl
    · exact .refl
  | status body => exact .refl
  | record bytes => exact .refl

theorem State.takeEcho_works (s : State) (echo : Option Echo) : s.Works (s.takeEcho echo) := by
  unfold State.takeEcho
  split
  · split
    · exact s.receiveDemand_works _
    · exact .refl
  · exact .refl

theorem State.acceptStatus_works (s : State) (i : Fin 16) (l : Link) (captured : Nat) (seq : Byte)
    (body : StatusBody) : s.Works (s.acceptStatus i l captured seq body) := by
  have hrecord (p : PeerEntry) (fits : Bool) (stamp : Nat) : s.Works (s.recordStatus i p fits stamp captured) :=
    .of_eq (s.recordStatus_working i p fits stamp captured)
  rw [State.acceptStatus_eq]
  split
  · exact (hrecord _ _ _).trans (State.takeEcho_works _ _)
  · exact hrecord _ _ _

theorem State.Delivered.works {s d : State} {l : Link} {captured : Nat} {t : Telegram}
    (h : s.Delivered l captured t d) : s.Works d := by
  cases h with
  | dropped => exact .refl
  | own => exact .raised .refl _
  | handed known => exact s.handOn_works _ (by omega) _
  | status known other i body => exact s.acceptStatus_works i l captured t.seq body
  | taken known other i =>
    exact (State.handOn_works (s.setPeer i (s.peers[i].takeOther t.seq t.body)) _ (by omega) t.body).from rfl

theorem State.keyInactive_works (s : State) (encoder : Option Word16) : s.Works (s.keyInactive encoder) := by
  cases hstate : s.hand.state with
  | off =>
    rw [State.keyInactive_of_off hstate]
    exact .refl
  | pending =>
    rw [State.keyInactive_of_pending hstate]
    exact .cancelled .refl hstate
  | hand =>
    rw [State.keyInactive_of_hand hstate]
    split
    · exact .raised (.left .refl hstate encoder) _
    · exact .left .refl hstate encoder

theorem State.handButtonChanged_works (s : State) (m : HandMove) (active : Bool) :
    s.Works (s.handButtonChanged m active) := by
  unfold State.handButtonChanged
  split
  · split
    · exact .handEnded .refl
    · exact .refl
  next hstill =>
    split
    next htaken =>
      simp only [Bool.and_eq_true, Bool.not_eq_true'] at htaken
      obtain ⟨⟨⟨-, hinHand⟩, -⟩, hrefused⟩ := htaken
      exact .moved .refl m hinHand hstill hrefused
    · exact .refl

theorem State.buttonChanged_works (s : State) (m : HandMove) (k : DemandKind) (active : Bool) :
    s.Works (s.buttonChanged m k active) := by
  unfold State.buttonChanged
  split
  · split
    · rcases s.pressDemand_cases k with ⟨-, h⟩ | ⟨-, -, h⟩ | ⟨-, -, h⟩ <;> rw [h]
      · exact .refl
      · exact .of_eq rfl
      · have hissued : s.Works (s.issued k) := (State.adopt_works _ (s.nextDemand k)).from rfl
        exact .congr hissued (State.formTelegram_working _ _ _)
    · exact .refl
  · exact .refl
  · exact s.handButtonChanged_works m active

theorem State.pressHalt_works (s : State) : s.Works s.pressHalt := by
  unfold State.pressHalt
  split
  · exact .of_eq (s.formHalt_working _)
  · exact .raised .refl _

theorem State.pressResume_works (s : State) : s.Works s.pressResume :=
  .congr (.resumed .refl) (State.formResume_working _)

theorem State.inputChanged_works (s : State) (i : Fin 16) (active : Bool) (encoder : Option Word16) :
    s.Works (s.inputChanged i active encoder) := by
  have detectors (k : Nat) : s.Works (s.detectorChanged k active) := .of_eq (s.detectorChanged_working k active)
  unfold State.inputChanged
  split
  · split
    · exact .raised .refl _
    · exact .of_eq rfl
  · split
    next hpanel =>
      split
      · exact .key .refl hpanel
      · exact s.keyInactive_works encoder
    · exact .refl
  · exact s.buttonChanged_works _ _ _
  · exact s.buttonChanged_works _ _ _
  · split
    · exact s.pressHalt_works
    · exact .refl
  · split
    · exact s.pressResume_works
    · exact .refl
  · exact detectors 0
  · exact detectors 1
  · exact detectors 2
  · exact detectors 3
  · exact .refl

theorem State.endOfTravel_works (s : State) : s.Works s.endOfTravel := by
  have hjudged : s.Works s.judgeSeating := .of_eq rfl
  rcases s.endOfTravel_cases with ⟨-, h⟩ | ⟨-, h⟩ | h <;> rw [h]
  · exact .raised hjudged _
  · exact .ended hjudged
  · exact hjudged

theorem State.ControlDone.works {s t : State} (h : s.ControlDone t) : s.Works t := by
  cases h with
  | none => exact .rested .refl
  | skewOnly => exact .congr (.rested .refl) rfl
  | full w up work kind =>
    by_cases htrip : s.cfg.skewTrip < skewOf s.level.height s.peerHeights
    · rw [State.fullComputation_of_trip w up htrip]
      exact .raised (.tripped .refl) _
    · rw [State.fullComputation_of_no_trip w up (not_lt.mp htrip)]
      exact (State.Works.referenced .refl w up work kind).trans (State.endOfTravel_works _)

theorem State.controlExpiry_works (s : State) (encoder : Option Word16) : s.Works (s.controlExpiry encoder) := by
  cases encoder with
  | none => exact .raised (.rested .refl) _
  | some h => exact (s.controlExpiry_some h).works.from rfl

/-- Every event works the machinery by these operations alone. -/
theorem State.Event.works {s t : State} (h : s.Event t) : s.Works t := by
  cases h with
  | input i encoder due changed => exact (State.inputChanged_works _ i _ encoder).from rfl
  | troubled l => exact (State.Works.of_eq (s.setLink_working l _)).trans (State.setHealth_works _ l _)
  | damaged l => exact (State.Works.of_eq (s.setLink_working l _)).trans (State.setHealth_works _ l _)
  | silent l => exact (State.Works.of_eq (s.setLink_working l _)).trans (State.setHealth_works _ l _)
  | counted l check => exact .congr (s.countValid_works l) rfl
  | delivered l tel =>
    have hcounted : s.Works (s.counted l (Machine.crc (encodeTelegram tel))) := .congr (s.countValid_works l) rfl
    exact hcounted.trans (State.deliver_delivered _ _ _ _).works
  | sent l a => exact (State.Works.of_eq (s.setLink_working l _)).trans (State.setHealth_works _ l _)
  | deadline i => exact .of_eq rfl
  | stalled => exact .of_eq rfl
  | supervised => exact .raised (.ended .refl) _
  | prewarned => exact .of_eq rfl
  | cleared => exact .of_eq rfl
  | ambered due doing => exact .completed .refl _ (beq_iff_eq.mp doing)
  | recovered due recovering => exact .recovered .refl recovering
  | control encoder => exact (State.controlExpiry_works _ encoder).from rfl
  | checked i current => exact .of_eq rfl
  | retried i => exact .of_eq rfl
  | boundary => exact .refl

end Sys2Proof.Machine

/-!
PROOFS. The laws of motion (O56): a halted station at rest, the reference in its direction and within V_max, the
reference of a hoist guarded by its hoist peers, and the accumulator in its range.
-/

namespace Sys2Proof.Machine

/-! ### The law of motion -/

theorem State.motionFits_of_working {s t : State} (h : t.working = s.working) (hs : s.motionFits) : t.motionFits := by
  have hstage : t.stage = s.stage := congrArg Working.stage h
  have hcfg : t.cfg = s.cfg := congrArg Working.cfg h
  have horigins : t.halt.origins = s.halt.origins := congrArg Working.origins h
  have hhand : t.hand = s.hand := congrArg Working.hand h
  have hseq : t.seq = s.seq := congrArg Working.seq h
  have href : t.level.speedRef = s.level.speedRef := congrArg Working.speedRef h
  simpa only [State.motionFits, State.halted, State.inHand, State.isRunning, State.hoistTravel, State.doing,
    State.stepNow, State.role, hstage, hcfg, horigins, hhand, hseq, href] using hs

/-- With the reference 0 the law of motion asks only where a step and a hand move may be. -/
theorem State.motionFits_of_zero {s : State} (zero : s.level.speedRef = 0)
    (halted : s.halted = true → s.seq.step = none ∧ s.hand.move = none) (inHand : s.inHand = true → s.seq.step = none)
    (moving : s.hand.move.isSome = true → s.inHand = true)
    (off : s.isRunning = false → s.seq.step = none ∧ s.hand.move = none) : s.motionFits := by
  refine ⟨fun h => ⟨(halted h).1, (halted h).2, zero⟩, inHand, moving, fun h => ⟨(off h).1, (off h).2, zero⟩,
    fun _ _ => zero, ?_, fun _ => ?_, fun _ => ?_⟩ <;> simp [zero]

/-- A station at which nothing moves. -/
def State.resting (s : State) : Prop := s.seq.step = none ∧ s.hand.move = none ∧ s.level.speedRef = 0

theorem State.resting.motionFits {s : State} (h : s.resting) : s.motionFits := by
  obtain ⟨hstep, hmove, hzero⟩ := h
  exact State.motionFits_of_zero hzero (fun _ => ⟨hstep, hmove⟩) (fun _ => hstep) (by simp [hmove])
    (fun _ => ⟨hstep, hmove⟩)

theorem State.motionFits.halted {s : State} (hs : s.motionFits) (h : s.halted = true) : s.resting := hs.1 h

theorem State.motionFits.off {s : State} (hs : s.motionFits) (h : s.isRunning = false) : s.resting := by
  obtain ⟨-, -, -, hoff, -⟩ := hs
  exact hoff h

/-- With a step in progress the station is in RUN, not halted, and no hand move is made. -/
theorem State.motionFits.stepping {s : State} (hs : s.motionFits) (h : s.seq.step ≠ none) :
    s.isRunning = true ∧ s.halted = false ∧ s.inHand = false ∧ s.hand.move = none := by
  have hrunning : s.isRunning = true := by
    by_contra hr
    exact h (hs.off (by simpa using hr)).1
  have hhalted : s.halted = false := by
    by_contra hr
    exact h (hs.halted (by simpa using hr)).1
  obtain ⟨-, hinHand, hmoving, -⟩ := hs
  have hhand : s.inHand = false := by
    by_contra hr
    exact h (hinHand (by simpa using hr))
  refine ⟨hrunning, hhalted, hhand, ?_⟩
  by_contra hmove
  simp [hmoving (Option.isSome_iff_ne_none.mpr hmove)] at hhand

/-- Without a step and a hand move the reference is 0. -/
theorem State.motionFits.resting {s : State} (hs : s.motionFits) (hstep : s.seq.step = none) (hmove : s.hand.move = none) :
    s.resting := by
  obtain ⟨-, -, -, -, hzero, -⟩ := hs
  exact ⟨hstep, hmove, hzero (by simp [State.hoistTravel, State.doing, State.stepNow, hstep]) hmove⟩

theorem State.endStep_motionFits {s : State} (hs : s.motionFits) : s.endStep.motionFits := by
  obtain ⟨hhalted, -, hmoving, hoff, -⟩ := hs
  exact State.motionFits_of_zero rfl (fun h => ⟨rfl, (hhalted h).2.1⟩) (fun _ => rfl) hmoving
    (fun h => ⟨rfl, (hoff h).2.1⟩)

theorem State.completeStep_motionFits {s : State} (st : Step) (hs : s.motionFits) : (s.completeStep st).motionFits := by
  obtain ⟨hhalted, -, hmoving, hoff, -⟩ := hs
  exact State.motionFits_of_zero rfl (fun h => ⟨rfl, (hhalted h).2.1⟩) (fun _ => rfl) hmoving
    (fun h => ⟨rfl, (hoff h).2.1⟩)

theorem State.stopTravel_motionFits {s : State} (hs : s.motionFits) : s.stopTravel.motionFits := by
  rcases s.stopTravel_cases with h | ⟨-, -, -, h⟩ | ⟨-, -, -, h⟩ <;> rw [h]
  · exact hs
  · exact State.endStep_motionFits hs
  · exact hs

theorem State.endHandMove_motionFits {s : State} (hs : s.motionFits) : s.endHandMove.motionFits := by
  unfold State.endHandMove
  split
  · obtain ⟨hhalted, hinHand, -, hoff, -⟩ := hs
    exact State.motionFits_of_zero rfl (fun h => ⟨(hhalted h).1, rfl⟩) hinHand (fun h => by simp at h)
      (fun h => ⟨(hoff h).1, rfl⟩)
  · exact hs

theorem State.addOrigin_resting {s : State} (hs : s.motionFits) (n : Nat) (r : HaltReason) :
    (s.addOrigin n r).resting := by
  rcases s.addOrigin_cases n r with ⟨hhalted, h⟩ | ⟨-, -, hstep, hmove, hzero, -⟩
  · rw [h]
    exact hs.halted hhalted
  · exact ⟨hstep, hmove, hzero⟩

/-- A cause that was not present halts a station, or finds it halted: motion is at rest. -/
theorem State.raiseCause_resting {s : State} (hs : s.motionFits) {c : LocalCause} (h : s.halt.has c = false) :
    (s.raiseCause c).resting := by
  have hput : ({ s with halt := s.halt.put c } : State).motionFits :=
    State.motionFits_of_working (by simp [State.working]) hs
  obtain ⟨hstep, hmove, hzero⟩ := State.addOrigin_resting hput s.own (.cause c)
  rcases s.raiseCause_cases c with ⟨hc, -⟩ | ⟨-, hc⟩
  · simp [h] at hc
  · rw [hc, State.resting, State.formHalt_seq, State.formHalt_hand, State.formHalt_level]
    exact ⟨hstep, hmove, hzero⟩

theorem State.raiseCause_motionFits {s : State} (c : LocalCause) (hs : s.motionFits) : (s.raiseCause c).motionFits := by
  cases h : s.halt.has c with
  | true => rwa [State.raiseCause_of_present h]
  | false => exact (State.raiseCause_resting hs h).motionFits

theorem State.discardInterrupted_step (s : State) : s.discardInterrupted.seq.step = s.seq.step := by
  unfold State.discardInterrupted
  split <;> rfl

/-- Discarding the interrupted step changes nothing but it and its timer. -/
theorem State.discardInterrupted_working (s : State) :
    s.discardInterrupted.working = { s.working with seq := s.discardInterrupted.seq } := by
  unfold State.discardInterrupted
  split <;> rfl

/-- A part of the sequencer other than its step may change. -/
theorem State.motionFits_of_step {s t : State} (h : t.working = { s.working with seq := t.seq })
    (hstep : t.seq.step = s.seq.step) (hs : s.motionFits) : t.motionFits := by
  have hstage : t.stage = s.stage := congrArg Working.stage h
  have hcfg : t.cfg = s.cfg := congrArg Working.cfg h
  have horigins : t.halt.origins = s.halt.origins := congrArg Working.origins h
  have hhand : t.hand = s.hand := congrArg Working.hand h
  have href : t.level.speedRef = s.level.speedRef := congrArg Working.speedRef h
  simpa only [State.motionFits, State.halted, State.inHand, State.isRunning, State.hoistTravel, State.doing,
    State.stepNow, State.role, hstage, hcfg, horigins, hhand, hstep, href] using hs

theorem State.discardInterrupted_motionFits {s : State} (hs : s.motionFits) : s.discardInterrupted.motionFits :=
  State.motionFits_of_step s.discardInterrupted_working s.discardInterrupted_step hs

theorem HaltRecord.resumed_origins_of_none {h : HaltRecord} (hh : h.origins = 0) (own : Nat) (estop : Bool) :
    (h.resumed own estop).origins = 0 := by
  unfold HaltRecord.resumed
  split <;> simp [hh]

theorem State.resume_motionFits {s : State} (hs : s.motionFits) : s.resume.motionFits := by
  have hcleared : ({ s with halt := s.halt.resumed s.own s.estopInput } : State).motionFits := by
    cases hh : s.halted with
    | true => exact State.resting.motionFits (hs.halted hh)
    | false =>
      have hnone : s.halt.origins = 0 := by simpa [State.halted] using hh
      exact State.motionFits_of_working
        (by simp [State.working, HaltRecord.resumed_origins_of_none hnone, hnone]) hs
  rcases s.resume_cases.2 with h | ⟨-, h⟩ <;> rw [h]
  · exact hcleared
  · exact State.discardInterrupted_motionFits hcleared

/-- HAND is entered with no step in progress. -/
theorem State.enterHand_motionFits {s : State} (hstep : s.seq.step = none) (running : s.isRunning = true)
    (hs : s.motionFits) : s.enterHand.motionFits := by
  have hd := State.discardInterrupted_motionFits hs
  have hdstep : s.discardInterrupted.seq.step = none := s.discardInterrupted_step.trans hstep
  have hdrunning : s.discardInterrupted.isRunning = true :=
    (State.isRunning_of_still s.discardInterrupted_still).trans running
  obtain ⟨hhalted, -, -, -, hzero, hbound, hup, hdown⟩ := hd
  exact ⟨hhalted, fun _ => hdstep, fun _ => rfl, fun h => absurd (hdrunning.symm.trans h) (by decide), hzero, hbound, hup,
    hdown⟩

theorem State.step_none_of_free {s : State} (hs : s.motionFits) (h : (s.seq.step.isNone || s.halted) = true) :
    s.seq.step = none := by
  rw [Bool.or_eq_true] at h
  rcases h with h | h
  · simpa using h
  · exact (hs.halted h).1

theorem State.grantHand_motionFits {s : State} (running : s.isRunning = true) (hs : s.motionFits) :
    s.grantHand.motionFits := by
  unfold State.grantHand
  split
  next h =>
    rw [Bool.and_eq_true] at h
    exact State.enterHand_motionFits (State.step_none_of_free hs h.2) running hs
  next => exact hs

/-- A hand state other than HAND is left for another other than HAND. -/
theorem State.motionFits_of_hand {s : State} (x : HandState) (hx : x ≠ .hand) (hstate : s.hand.state ≠ .hand)
    (hs : s.motionFits) : ({ s with hand := { s.hand with state := x } } : State).motionFits := by
  obtain ⟨hhalted, -, hmoving, hrest⟩ := hs
  refine ⟨hhalted, fun h => absurd (beq_iff_eq.mp h) hx, fun h => absurd (beq_iff_eq.mp (hmoving h)) hstate, hrest⟩

theorem State.keyActive_motionFits {s : State} (running : s.isRunning = true) (hs : s.motionFits) :
    s.keyActive.motionFits := by
  unfold State.keyActive
  split
  next hoff =>
    split
    next h => exact State.enterHand_motionFits (State.step_none_of_free hs h) running hs
    next => exact State.motionFits_of_hand .pending (by decide) (by simp [beq_iff_eq.mp hoff]) hs
  next => exact hs

theorem State.leaveHand_resting {s : State} (inHand : s.hand.state = .hand) (hs : s.motionFits)
    (encoder : Option Word16) : (s.leaveHand encoder).resting := by
  have hstep : s.seq.step = none := hs.2.1 (by simp [State.inHand, inHand])
  have hended : s.endHandMove.resting := by
    unfold State.endHandMove
    split
    · exact ⟨hstep, rfl, rfl⟩
    next hmove => exact hs.resting hstep hmove
  have hrebuild (t : State) (ht : t.resting) : (t.rebuild encoder).resting := by
    unfold State.rebuild
    dsimp only
    split <;> exact ⟨rfl, ht.2⟩
  exact hrebuild _ hended

theorem State.beginHandMove_motionFits {s : State} (m : HandMove) (inHand : s.inHand = true) (hmove : s.hand.move = none)
    (taken : s.handMoveRefused m = false) (running : s.isRunning = true) (hs : s.motionFits) :
    (s.beginHandMove m).motionFits := by
  have hstep : s.seq.step = none := hs.2.1 inHand
  have hhalted : s.halted = false := by
    unfold State.handMoveRefused at taken
    exact (Bool.or_eq_false_iff.mp taken).1
  have hzero := (hs.resting hstep hmove).2.2
  unfold State.beginHandMove
  dsimp only
  split <;>
    exact State.motionFits_of_zero hzero (fun h => absurd (hhalted.symm.trans h) (by decide)) (fun _ => hstep)
      (fun _ => inHand) (fun h => absurd (running.symm.trans h) (by decide))

theorem State.noComputation_motionFits {s : State} (hs : s.motionFits) : s.noComputation.motionFits := by
  obtain ⟨hhalted, hinHand, hmoving, hoff, -⟩ := hs
  exact State.motionFits_of_zero rfl (fun h => ⟨(hhalted h).1, (hhalted h).2.1⟩) hinHand hmoving
    (fun h => ⟨(hoff h).1, (hoff h).2.1⟩)

/-- Where a full computation is due, and in which direction (R96). -/
theorem State.controlWork_direction {s : State} {w : ControlWork} {up : Bool} (work : s.controlWork = w)
    (kind : w = .travel up ∨ w = .stopping up ∨ w = .hand up) :
    s.halted = false ∧
      ((s.hoistTravel = true ∧ up = s.doing .raise .forward) ∨
        (s.hoistTravel = false ∧ ∃ m, s.hand.move = some m ∧ up = (m == .up))) := by
  unfold State.controlWork at work
  split at work
  · rcases kind with rfl | rfl | rfl <;> cases work
  next hhalted =>
    refine ⟨by simpa using hhalted, ?_⟩
    split at work
    next htravel =>
      refine .inl ⟨htravel, ?_⟩
      split at work <;> rcases kind with rfl | rfl | rfl <;> cases work <;> rfl
    next htravel =>
      refine .inr ⟨by simpa using htravel, ?_⟩
      split at work
      next m hm => rcases kind with rfl | rfl | rfl <;> cases work; exact ⟨m, hm, rfl⟩
      next => split at work <;> rcases kind with rfl | rfl | rfl <;> cases work

theorem State.throughReference_motionFits {s : State} {w : ControlWork} {up : Bool} (work : s.controlWork = w)
    (kind : w = .travel up ∨ w = .stopping up ∨ w = .hand up) (hs : s.motionFits) :
    (s.throughReference w up).motionFits := by
  obtain ⟨hhalted, hdirection⟩ := State.controlWork_direction work kind
  have hrunning : s.isRunning = true := by
    by_contra hr
    obtain ⟨hstep, hmove, -⟩ := hs.off (by simpa using hr)
    rcases hdirection with ⟨htravel, -⟩ | ⟨-, m, hm, -⟩
    · exact State.step_ne_none_of_hoistTravel htravel hstep
    · simp [hmove] at hm
  have hup : s.doing .raise .forward = true ∨ s.hand.move = some .up → up = true := by
    rcases hdirection with ⟨htravel, rfl⟩ | ⟨htravel, m, hm, rfl⟩
    · rintro (h | h)
      · exact h
      · simp [(hs.stepping (State.step_ne_none_of_hoistTravel htravel)).2.2.2] at h
    · rintro (h | h)
      · simp [(hs.stepping (State.step_ne_none_of_doing h)).2.2.2] at hm
      · simp_all
  have hdown : s.doing .raise .inverse = true ∨ s.hand.move = some .down → up = false := by
    rcases hdirection with ⟨htravel, rfl⟩ | ⟨htravel, m, hm, rfl⟩
    · rintro (h | h)
      · simp only [State.doing, beq_iff_eq] at h
        simp [State.doing, h]
      · simp [(hs.stepping (State.step_ne_none_of_hoistTravel htravel)).2.2.2] at h
    · rintro (h | h)
      · simp [(hs.stepping (State.step_ne_none_of_doing h)).2.2.2] at hm
      · obtain rfl : m = .down := Option.some.inj (hm.symm.trans h)
        rfl
  have href : (s.throughReference w up).level.speedRef =
      speedReference up s.cfg.vMax (s.formedProfile w) s.formedCorrection := rfl
  have hboundUp := speedReference_up_bounds s.cfg.vMax (s.formedProfile w) s.formedCorrection
  have hboundDown := speedReference_down_bounds s.cfg.vMax (s.formedProfile w) s.formedCorrection
  obtain ⟨-, hinHand, hmoving, -⟩ := hs
  refine ⟨fun h => absurd (hhalted.symm.trans h) (by decide), hinHand, hmoving,
    fun h => absurd (hrunning.symm.trans h) (by decide), fun htravel hmove => ?_, ?_, fun h => ?_, fun h => ?_⟩
  · rcases hdirection with ⟨ht, -⟩ | ⟨-, m, hm, -⟩
    · exact absurd (ht.symm.trans htravel) (by decide)
    · exact absurd (hm.symm.trans hmove) (by simp)
  · show (s.throughReference w up).level.speedRef.natAbs ≤ s.cfg.vMax
    rw [href]
    cases up <;> omega
  · rw [href, hup h]
    exact hboundUp.1
  · rw [href, hdown h]
    exact hboundDown.2.1

theorem State.leaveHand_isRunning (s : State) (encoder : Option Word16) :
    (s.leaveHand encoder).isRunning = s.isRunning := by
  have hstage : (s.leaveHand encoder).stage = s.stage := congrArg Still.stage (s.leaveHand_still encoder)
  rw [State.isRunning, hstage, State.isRunning]

theorem State.Works.motionFits {s t : State} (h : s.Works t) (running : s.isRunning = true) (hs : s.motionFits) :
    t.isRunning = true ∧ t.motionFits := by
  have still {t u : State} (ht : t.isRunning = true) (hstill : u.still = t.still) : u.isRunning = true :=
    (State.isRunning_of_still hstill).trans ht
  induction h with
  | refl => exact ⟨running, hs⟩
  | congr _ same ih =>
    have hstage := congrArg Working.stage same
    exact ⟨(congrArg (· == Stage.running) hstage).trans ih.1, State.motionFits_of_working same ih.2⟩
  | raised _ c ih => exact ⟨still ih.1 (State.raiseCause_still _ c), State.raiseCause_motionFits c ih.2⟩
  | joined _ n known r ih => exact ⟨still ih.1 (State.addOrigin_still _ n r), (State.addOrigin_resting ih.2 n r).motionFits⟩
  | resumed _ ih => exact ⟨still ih.1 (State.resume_still _), State.resume_motionFits ih.2⟩
  | ended _ ih => exact ⟨ih.1, State.endStep_motionFits ih.2⟩
  | completed _ st now ih => exact ⟨ih.1, State.completeStep_motionFits st ih.2⟩
  | reversed _ ih => exact ⟨still ih.1 (State.stopTravel_still _), State.stopTravel_motionFits ih.2⟩
  | key _ panel ih => exact ⟨still ih.1 (State.keyActive_still _), State.keyActive_motionFits ih.1 ih.2⟩
  | cancelled _ pending ih => exact ⟨ih.1, State.motionFits_of_hand .off (by decide) (by simp [pending]) ih.2⟩
  | left _ inHand encoder ih =>
    exact ⟨(State.leaveHand_isRunning _ encoder).trans ih.1, (State.leaveHand_resting inHand ih.2 encoder).motionFits⟩
  | moved _ m inHand hmove taken ih =>
    exact ⟨still ih.1 (State.beginHandMove_still _ m), State.beginHandMove_motionFits m inHand hmove taken ih.1 ih.2⟩
  | handEnded _ ih => exact ⟨still ih.1 (State.endHandMove_still _), State.endHandMove_motionFits ih.2⟩
  | recovered _ recovering ih => exact ⟨ih.1, State.motionFits_of_step rfl rfl ih.2⟩
  | rested _ ih => exact ⟨ih.1, State.noComputation_motionFits ih.2⟩
  | tripped _ ih => exact ⟨ih.1, ih.2⟩
  | referenced _ w up work kind ih => exact ⟨ih.1, State.throughReference_motionFits work kind ih.2⟩

end Sys2Proof.Machine

/-!
PROOFS. The laws of motion under the reactions of an event and under every command (O56).
-/

namespace Sys2Proof.Machine

/-! ### The law of motion under the reactions -/

theorem State.motionFits_of_parts {s t : State} (hstill : t.still = s.still) (hhalt : t.halt.origins = s.halt.origins)
    (hhand : t.hand = s.hand) (hstep : t.seq.step = s.seq.step) (href : t.level.speedRef = s.level.speedRef)
    (hs : s.motionFits) : t.motionFits := by
  have hstage : t.stage = s.stage := congrArg Still.stage hstill
  have hcfg : t.cfg = s.cfg := congrArg Still.cfg hstill
  simpa only [State.motionFits, State.halted, State.inHand, State.isRunning, State.hoistTravel, State.doing,
    State.stepNow, State.role, hstage, hcfg, hhalt, hhand, hstep, href] using hs

theorem State.prepared_motionFits {s : State} (hs : s.motionFits) : s.prepared.motionFits :=
  State.motionFits_of_parts s.prepared_still (by simp) s.prepared_hand s.prepared_step (by simp) hs

theorem State.settle_motionFits {s : State} (running : s.isRunning = true) (hs : s.motionFits) :
    s.settle.motionFits := by
  unfold State.settle
  dsimp only
  split <;> exact State.grantHand_motionFits running hs

theorem State.beginStep_level_cases (s : State) (st : Step) (b : Bool) :
    (s.beginStep st b).level = s.level ∨ (s.beginStep st b).level = s.level.begin_ := by
  unfold State.beginStep
  dsimp only
  split
  · exact .inl rfl
  · exact .inr rfl
  · exact .inr rfl
  · exact .inl rfl
  · exact .inl rfl

/-- A step is begun in RUN, at a station that is not halted, with nothing moving. -/
theorem State.beginStep_motionFits {s : State} (st : Step) (b : Bool) (running : s.isRunning = true)
    (free : s.halted = false) (off : s.inHand = false) (rest : s.resting) : (s.beginStep st b).motionFits := by
  have hzero : (s.beginStep st b).level.speedRef = 0 := by
    rcases s.beginStep_level_cases st b with h | h <;> rw [h] <;> exact rest.2.2
  have hrunning := (State.isRunning_of_still (s.beginStep_still st b)).trans running
  refine State.motionFits_of_zero hzero (fun h => ?_) (fun h => ?_) (fun h => ?_)
    (fun h => absurd (hrunning.symm.trans h) (by decide))
  · rw [State.halted, State.beginStep_halt] at h
    exact absurd (free.symm.trans h) (by decide)
  · rw [State.inHand, State.beginStep_hand] at h
    exact absurd (off.symm.trans h) (by decide)
  · simp [rest.2.1] at h

theorem State.raiseCauses_motionFits {s : State} (cs : List LocalCause) (hs : s.motionFits) :
    (s.raiseCauses cs).motionFits :=
  State.raiseCauses_keeps (P := State.motionFits) cs (fun _ h => h) (fun _ c _ h => State.raiseCause_motionFits c h) s hs

theorem State.resting.endStep {s : State} (hs : s.motionFits) (h : s.seq.step ≠ none) : s.endStep.resting :=
  ⟨rfl, (hs.stepping h).2.2.2, rfl⟩

theorem State.step_ne_none_of_stepNow {s : State} {st : Step} (h : s.stepNow = some st) : s.seq.step ≠ none := by
  intro hnone
  simp [State.stepNow, hnone] at h

theorem State.nextMove_motionFits {s : State} {held b : Bool} {r : Bool × State} (hs : s.motionFits)
    (h : s.nextMove held b = some r) : r.2.motionFits := by
  unfold State.nextMove at h
  split at h
  next st hst =>
    have hstep := State.step_ne_none_of_stepNow hst
    obtain ⟨hrunning, hhalted, hoff, -⟩ := hs.stepping hstep
    rcases State.endMove_cases h with ⟨-, rfl⟩ | ⟨-, -, -, rfl | rfl⟩ | ⟨-, -, -, rfl⟩ | ⟨-, -, -, rfl⟩ |
      ⟨-, -, -, -, rfl⟩
    · exact State.beginStep_motionFits { kind := .green, dir := .inverse } false hrunning hhalted hoff
        (State.resting.endStep hs hstep)
    · exact State.completeStep_motionFits (s := s.draw.2) st hs
    · exact State.raiseCauses_motionFits (s := s.draw.2) _ hs
    · exact State.raiseCauses_motionFits _ hs
    · exact State.completeStep_motionFits st hs
    · exact State.endStep_motionFits hs
  · obtain ⟨st, -, hmay, -, -, rfl⟩ := State.beginMove_cases h
    simp only [State.mayBegin, Bool.and_eq_true, Bool.not_eq_true', beq_iff_eq, Option.isNone_iff_eq_none] at hmay
    obtain ⟨⟨⟨⟨hrunning, hoff⟩, hhalted⟩, hstep⟩, -⟩ := hmay
    have hinHand : s.inHand = false := by simp [State.inHand, hoff]
    have hmove : s.hand.move = none := by
      by_contra hmove
      have hmoving := hs.2.2.1 (Option.isSome_iff_ne_none.mpr hmove)
      exact absurd (hinHand.symm.trans hmoving) (by decide)
    exact State.beginStep_motionFits st b hrunning hhalted hinHand (hs.resting hstep hmove)

/-- A running station whose motion and halt record are kept: what the sequencer's work is judged from. -/
def State.workable (s : State) : Prop := s.isRunning = true ∧ s.motionFits

theorem State.settle_workable {s : State} (h : s.workable) : s.settle.workable :=
  ⟨(State.isRunning_of_still s.settle_still).trans h.1, State.settle_motionFits h.1 h.2⟩

theorem State.nextMove_workable {s : State} {held b : Bool} {r : Bool × State} (hs : s.workable)
    (h : s.nextMove held b = some r) : r.2.workable :=
  ⟨(State.isRunning_of_still (State.nextMove_still h)).trans hs.1, State.nextMove_motionFits hs.2 h⟩

theorem State.sequenced_motionFits {s : State} (held : Bool) (running : s.isRunning = true) (hs : s.motionFits) :
    (s.sequenced held).motionFits :=
  (State.sequenced_keeps (P := State.workable) (fun _ => State.settle_workable)
    (fun _ _ _ ht hm => State.nextMove_workable ht hm)
    ⟨(State.isRunning_of_still s.prepared_still).trans running, State.prepared_motionFits hs⟩).2

theorem State.followHandMove_motionFits {s : State} (hs : s.motionFits) : s.followHandMove.motionFits := by
  unfold State.followHandMove
  split
  · exact State.endHandMove_motionFits hs
  · exact hs

theorem State.react_motionFits {s : State} (held : Bool) (running : s.isRunning = true) (hs : s.motionFits) :
    (s.react held).motionFits := by
  have hmoved := State.followHandMove_motionFits (State.sequenced_motionFits held running hs)
  rw [State.react_eq]
  exact State.motionFits_of_working rfl hmoved

theorem State.conclude_motionFits (before : State) {after : State} (running : after.isRunning = true)
    (hs : after.motionFits) : (State.conclude before after).motionFits :=
  State.motionFits_of_working (State.conclude_working before after) (State.react_motionFits _ running hs)

/-! ### The accumulator -/

/-- An accumulator of 0 is within its range. -/
theorem accumulator_zero_fits : -1048576 ≤ (0 : Int) ∧ (0 : Int) ≤ 1048575 := by decide

theorem State.accumulatorFits_of_working {s t : State} (h : t.working = s.working) (hs : s.accumulatorFits) :
    t.accumulatorFits := by
  have haccumulator : t.level.accumulator = s.level.accumulator := congrArg Working.accumulator h
  unfold State.accumulatorFits
  rwa [haccumulator]

theorem State.accumulatorFits_of_level {s t : State} (h : t.level = s.level ∨ t.level = { s.level with speedRef := 0 } ∨
    t.level = s.level.begin_) (hs : s.accumulatorFits) : t.accumulatorFits := by
  unfold State.accumulatorFits
  rcases h with h | h | h <;> rw [h]
  · exact hs
  · exact hs
  · exact accumulator_zero_fits

theorem State.raiseCause_accumulatorFits {s : State} (c : LocalCause) (hs : s.accumulatorFits) :
    (s.raiseCause c).accumulatorFits :=
  State.accumulatorFits_of_level ((s.raiseCause_level_keptOrStopped c).imp_right .inl) hs

theorem State.endHandMove_accumulatorFits {s : State} (hs : s.accumulatorFits) : s.endHandMove.accumulatorFits := by
  unfold State.endHandMove
  split <;> exact hs

theorem State.discardInterrupted_level (s : State) : s.discardInterrupted.level = s.level := by
  unfold State.discardInterrupted
  split <;> rfl

theorem State.grantHand_level (s : State) : s.grantHand.level = s.level := by
  unfold State.grantHand
  split
  · exact s.discardInterrupted_level
  · rfl

theorem State.keyActive_level (s : State) : s.keyActive.level = s.level := by
  unfold State.keyActive
  split
  · split
    · exact s.discardInterrupted_level
    · rfl
  · rfl

theorem State.rebuild_accumulator (s : State) (encoder : Option Word16) :
    (s.rebuild encoder).level.accumulator = s.level.accumulator := by
  unfold State.rebuild
  dsimp only
  split <;> rfl

theorem State.throughSkew_accumulatorFits (s : State) : s.throughSkew.accumulatorFits :=
  clampInt_bounds _ (by decide)

theorem State.Works.accumulatorFits {s t : State} (h : s.Works t) (hs : s.accumulatorFits) : t.accumulatorFits := by
  induction h with
  | refl => exact hs
  | congr _ same ih => exact State.accumulatorFits_of_working same ih
  | raised _ c ih => exact State.raiseCause_accumulatorFits c ih
  | joined _ n known r ih =>
    exact State.accumulatorFits_of_level ((State.addOrigin_level_keptOrStopped _ n r).imp_right .inl) ih
  | @resumed t _ ih =>
    rcases t.resume_cases.2 with h | ⟨-, h⟩ <;> rw [h]
    · exact ih
    · exact State.accumulatorFits_of_level (.inl (State.discardInterrupted_level _)) ih
  | ended _ ih => exact ih
  | completed _ st now ih => exact ih
  | @reversed t _ ih =>
    rcases t.stopTravel_cases with h | ⟨-, -, -, h⟩ | ⟨-, -, -, h⟩ <;> rw [h] <;> exact ih
  | key _ panel ih => exact State.accumulatorFits_of_level (.inl (State.keyActive_level _)) ih
  | cancelled _ pending ih => exact ih
  | left _ inHand encoder ih =>
    unfold State.accumulatorFits State.leaveHand
    rw [State.rebuild_accumulator]
    exact State.endHandMove_accumulatorFits ih
  | moved _ m inHand hmove taken ih =>
    unfold State.beginHandMove
    dsimp only
    split
    · exact accumulator_zero_fits
    · exact ih
  | handEnded _ ih => exact State.endHandMove_accumulatorFits ih
  | recovered _ recovering ih => exact ih
  | rested _ ih => exact ih
  | tripped _ ih => exact State.throughSkew_accumulatorFits _
  | referenced _ w up work kind ih => exact State.throughSkew_accumulatorFits _

theorem State.sequenced_accumulatorFits {s : State} (held : Bool) (hs : s.accumulatorFits) :
    (s.sequenced held).accumulatorFits := by
  refine State.sequenced_keeps (P := State.accumulatorFits) (fun t ht => ?_) (fun t b r ht hm => ?_)
    (State.accumulatorFits_of_level (.inl s.prepared_level) hs)
  · refine State.accumulatorFits_of_level (.inl ?_) ht
    unfold State.settle
    dsimp only
    split <;> exact t.grantHand_level
  · exact State.nextMove_keeps (P := State.accumulatorFits)
      (fun u st b hu => State.accumulatorFits_of_level ((u.beginStep_level_cases st b).imp_right .inr) hu)
      (fun _ hu => hu) (fun _ _ hu => hu) (fun _ hu => hu) (fun _ c _ hu => State.raiseCause_accumulatorFits c hu) ht hm

theorem State.react_accumulatorFits {s : State} (held : Bool) (hs : s.accumulatorFits) :
    (s.react held).accumulatorFits := by
  have hmoved : (s.sequenced held).followHandMove.accumulatorFits := by
    unfold State.followHandMove
    split
    · exact State.endHandMove_accumulatorFits (State.sequenced_accumulatorFits held hs)
    · exact State.sequenced_accumulatorFits held hs
  rw [State.react_eq]
  exact hmoved

theorem State.conclude_accumulatorFits (before : State) {after : State} (hs : after.accumulatorFits) :
    (State.conclude before after).accumulatorFits :=
  State.accumulatorFits_of_working (State.conclude_working before after) (State.react_accumulatorFits _ hs)

/-! ### The guard of a hoist's reference -/

/-- What the sequencer's work at an event leaves, when every move it makes or is left with is judged. -/
theorem State.advance_reaches {P Q : State → Prop} {held : Bool} (settles : ∀ s, P s → P s.settle)
    (moves : ∀ s b r, P s → s.nextMove held b = some r → P r.2 ∧ Q r.2)
    (ends : ∀ s b, P s → s.nextMove held b = none → Q s) (n : Nat) (b : Bool) (s : State) (h : P s) :
    Q (State.advance held (n + 1) b s) := by
  induction n generalizing b s with
  | zero =>
    simp only [State.advance]
    split
    next hm => exact (moves _ _ _ (settles s h) hm).2
    next hm => exact ends _ _ (settles s h) hm
  | succ n ih =>
    rw [State.advance]
    split
    next hm => exact ih _ _ (moves _ _ _ (settles s h) hm).1
    next hm => exact ends _ _ (settles s h) hm

/-- A hoist in travel has every HOIST-flagged entry TRACKED (R87, R106). -/
def State.travelGuarded (s : State) : Prop := s.hoistTravel = true → s.hoistPeersTracked = true

theorem State.travelGuarded_of_step {s : State} (h : s.seq.step = none) : s.travelGuarded := fun htravel =>
  absurd h (State.step_ne_none_of_hoistTravel htravel)

theorem State.hoistPeersTracked_of_formedReady {s : State} {attr : PeerEntry → StatusBody → Bool}
    (h : s.formedReady attr = true) : s.hoistPeersTracked = true := by
  rw [State.hoistPeersTracked, State.flagged_all_iff]
  intro i hi
  rcases (State.formedReady_iff s attr).mp h with ⟨-, hnone⟩ | hformed
  · exact absurd hi (hnone i)
  · have hcontributes := ((State.formed_iff s .hoist attr).mp hformed).2 i hi
    exact beq_iff_eq.mpr ((PeerEntry.contributes_iff attr _).mp hcontributes).1

theorem State.role_of_still {s t : State} (h : t.still = s.still) : t.role = s.role :=
  congrArg (fun x : Still => x.cfg.role) h

theorem State.hoistPeersTracked_of_still {s t : State} (h : t.still = s.still) :
    t.hoistPeersTracked = s.hoistPeersTracked := by
  have hpeers : t.peers = s.peers := congrArg Still.peers h
  rw [State.hoistPeersTracked, State.flagged, hpeers]
  rfl

/-- A cause that is present, or arises, finds or leaves no step in progress. -/
theorem State.raiseCause_step {s : State} (c : LocalCause) (hs : s.motionFits) (hkept : s.halt.Kept s.own) :
    (s.raiseCause c).seq.step = none := by
  cases h : s.halt.has c with
  | false => exact (State.raiseCause_resting hs h).1
  | true =>
    rw [State.raiseCause_of_present h]
    obtain ⟨-, -, hpresent⟩ := hkept
    have hmask : maskHas s.halt.origins s.own = true := by
      refine hpresent ?_
      by_contra hnone
      push Not at hnone
      simp [HaltRecord.has, hnone, causeHas] at h
    have hhalted : s.halted = true := by
      by_contra hhalted
      have horigins : s.halt.origins = 0 := by simpa [State.halted] using hhalted
      simp [horigins, maskHas] at hmask
    exact (hs.halted hhalted).1

theorem State.raiseCause_step_none {s : State} (c : LocalCause) (hs : s.motionFits) (h : s.seq.step = none) :
    (s.raiseCause c).seq.step = none := by
  cases hc : s.halt.has c with
  | false => exact (State.raiseCause_resting hs hc).1
  | true => rwa [State.raiseCause_of_present hc]

theorem State.raiseCauses_step {s : State} {cs : List LocalCause} (hcs : cs ≠ []) (hs : s.motionFits)
    (hkept : s.halt.Kept s.own) : (s.raiseCauses cs).seq.step = none := by
  have folds (ds : List LocalCause) (t : State) (ht : t.motionFits) (hstep : t.seq.step = none) :
      (ds.foldl State.raiseCause t).seq.step = none := by
    induction ds generalizing t with
    | nil => exact hstep
    | cons d ds ih => exact ih _ (State.raiseCause_motionFits d ht) (State.raiseCause_step_none d ht hstep)
  have starts (ds : List LocalCause) (hds : ds ≠ []) (t : State) (ht : t.motionFits) (hk : t.halt.Kept t.own) :
      (ds.foldl State.raiseCause t).seq.step = none := by
    cases ds with
    | nil => exact absurd rfl hds
    | cons d ds => exact folds ds _ (State.raiseCause_motionFits d ht) (State.raiseCause_step d ht hk)
  unfold State.raiseCauses
  split
  · exact absurd rfl hcs
  · exact State.raiseCause_step _ hs hkept
  · refine starts _ ?_ s.draw.2 hs hkept
    split
    · simpa using hcs
    · exact hcs

/-- A state whose motion and halt record are kept, in RUN or HAND. -/
def State.guardable (s : State) : Prop := s.workable ∧ s.haltFits

theorem State.settle_guardable {s : State} (h : s.guardable) : s.settle.guardable :=
  ⟨State.settle_workable h.1, State.haltFits_of_still s.settle_still s.settle_halt h.2⟩

theorem State.nextMove_haltFits {s : State} {held b : Bool} {r : Bool × State} (running : s.isRunning = true)
    (hs : s.haltFits) (h : s.nextMove held b = some r) : r.2.haltFits := by
  refine (State.nextMove_keeps (P := fun t => t.isRunning = true ∧ t.haltFits) (fun u st b hu => ?_) (fun u hu => hu)
    (fun u st hu => hu) (fun u hu => hu) (fun u c hc hu => ?_) ⟨running, hs⟩ h).2
  · exact ⟨(State.isRunning_of_still (u.beginStep_still st b)).trans hu.1,
      State.haltFits_of_still (u.beginStep_still st b) (u.beginStep_halt st b) hu.2⟩
  · exact ⟨(State.isRunning_of_still (u.raiseCause_still c)).trans hu.1, State.raiseCause_haltFits hu.1 hc.latched hu.2⟩

/-- A travel step is begun only with every HOIST-flagged entry TRACKED (R81, R83). -/
theorem State.beginStep_travelGuarded {s : State} {st : Step} (b : Bool) (running : s.isRunning = true)
    (start : s.startCondition st = true) : (s.beginStep st b).travelGuarded := by
  intro htravel
  rw [State.hoistPeersTracked_of_still (s.beginStep_still st b)]
  obtain ⟨hup, hdown, -⟩ := State.permissive_hoist running
  have hnow : (s.beginStep st b).stepNow = some st := by simp [State.stepNow]
  simp only [State.hoistTravel, State.doing, hnow, Bool.and_eq_true, Bool.or_eq_true, beq_iff_eq, Option.some.injEq]
    at htravel
  rcases htravel.2 with rfl | rfl
  · simp only [State.startCondition, Bool.and_eq_true] at start
    exact State.hoistPeersTracked_of_formedReady (hup ▸ start.1.2)
  · simp only [State.startCondition, Bool.and_eq_true] at start
    exact State.hoistPeersTracked_of_formedReady (hdown ▸ start.1.2)

/-- No move leaves a hoist in travel unguarded. -/
theorem State.nextMove_travelGuarded {s : State} {held b : Bool} {r : Bool × State} (hs : s.guardable)
    (h : s.nextMove held b = some r) : r.2.travelGuarded := by
  obtain ⟨⟨hrunning, hmotion⟩, hhalt⟩ := hs
  have hkept := State.kept_of_haltFits hhalt
  unfold State.nextMove at h
  split at h
  · rcases State.endMove_cases h with ⟨hgreen, rfl⟩ | ⟨-, hcauses, -, rfl | rfl⟩ | ⟨-, hcauses, -, rfl⟩ |
      ⟨-, -, -, rfl⟩ | ⟨-, -, -, -, rfl⟩
    · intro htravel
      have hrole : (s.endStep.beginStep { kind := .green, dir := .inverse } false).role = s.role :=
        State.role_of_still ((State.beginStep_still _ _ _).trans s.endStep_still)
      simp only [State.greenLost, Bool.and_eq_true, beq_iff_eq] at hgreen
      simp only [State.hoistTravel, hrole, hgreen.1.1.1] at htravel
      cases htravel
    · exact State.travelGuarded_of_step rfl
    · exact State.travelGuarded_of_step (State.raiseCauses_step (s := s.draw.2) hcauses hmotion hkept)
    · exact State.travelGuarded_of_step (State.raiseCauses_step hcauses hmotion hkept)
    · exact State.travelGuarded_of_step rfl
    · exact State.travelGuarded_of_step rfl
  · obtain ⟨st, -, -, hstart, -, rfl⟩ := State.beginMove_cases h
    exact State.beginStep_travelGuarded b hrunning hstart

/-- With no move due, a hoist in travel has met no cause. -/
theorem State.travelGuarded_of_no_move {s : State} {held b : Bool} (h : s.nextMove held b = none) :
    s.travelGuarded := by
  intro htravel
  obtain ⟨st, hst⟩ : ∃ st, s.stepNow = some st := by
    cases hst : s.stepNow with
    | none => simp [State.hoistTravel, State.doing, hst] at htravel
    | some st => exact ⟨st, rfl⟩
  rw [State.nextMove, hst] at h
  dsimp only at h
  by_contra htracked
  have hcauses : s.travelCauses.isEmpty = false := by simp [State.travelCauses, htravel, htracked]
  cases hg : s.greenLost <;> cases hc : s.completionCondition st <;> simp [State.endMove, hg, hc, hcauses] at h

theorem State.sequenced_travelGuarded {s : State} (held : Bool) (hs : s.guardable) :
    (s.sequenced held).travelGuarded := by
  rw [State.sequenced_eq]
  refine State.advance_reaches (P := State.guardable) (fun _ => State.settle_guardable)
    (fun t b r ht hm => ⟨⟨State.nextMove_workable ht.1 hm, State.nextMove_haltFits ht.1.1 ht.2 hm⟩,
      State.nextMove_travelGuarded ht hm⟩) (fun t b _ hm => State.travelGuarded_of_no_move hm) _ _ _ ?_
  exact ⟨⟨(State.isRunning_of_still s.prepared_still).trans hs.1.1, State.prepared_motionFits hs.1.2⟩,
    State.haltFits_of_still s.prepared_still s.prepared_halt hs.2⟩

/-- A hand move of a hoist is guarded as its travel is (R126). -/
def State.moveGuarded (s : State) : Prop := s.role = .hoist → s.hand.move.isSome = true → s.hoistPeersTracked = true

theorem State.followHandMove_moveGuarded (s : State) : s.followHandMove.moveGuarded := by
  intro hrole hmove
  have hrole' : s.role = .hoist := (State.role_of_still s.followHandMove_still).symm.trans hrole
  rw [State.hoistPeersTracked_of_still s.followHandMove_still]
  unfold State.followHandMove at hmove
  split at hmove
  · unfold State.endHandMove at hmove
    split at hmove
    · simp at hmove
    next hnone => simp [hnone] at hmove
  next hends =>
    obtain ⟨m, hm⟩ := Option.isSome_iff_exists.mp hmove
    cases m <;> simp_all [State.handMoveEnds]

/-- The guard of the reference follows from the guards of travel and of a hand move. -/
theorem State.referenceGuarded_of_guards {s : State} (hs : s.motionFits) (htravel : s.travelGuarded)
    (hmove : s.moveGuarded) : s.referenceGuarded := by
  have hguard : s.role = .hoist → s.hoistTravel = true ∨ s.hand.move.isSome = true → s.hoistPeersTracked = true :=
    fun hrole h => h.elim htravel (hmove hrole)
  refine ⟨hguard, fun hrole href => ⟨?_, ?_, fun i hv hf => ?_⟩⟩
  · by_contra hr
    exact href (hs.off (by simpa using hr)).2.2
  · by_contra hh
    exact href (hs.halted (by simpa using hh)).2.2
  · have hmoving : s.hoistTravel = true ∨ s.hand.move.isSome = true := by
      by_contra hnone
      rw [not_or, Bool.not_eq_true, Bool.not_eq_true, Option.isSome_eq_false_iff, Option.isNone_iff_eq_none] at hnone
      obtain ⟨-, -, -, -, hzero, -⟩ := hs
      exact href (hzero hnone.1 hnone.2)
    have htracked := hguard hrole hmoving
    rw [State.hoistPeersTracked, State.flagged_all_iff] at htracked
    exact beq_iff_eq.mp (htracked i ((PeerEntry.has_iff _ _).mpr ⟨hv, hf⟩))

theorem State.followHandMove_seq (s : State) : s.followHandMove.seq = s.seq := by
  unfold State.followHandMove State.endHandMove
  split
  · split <;> rfl
  · rfl

/-- Whatever an event did, its reactions leave the reference guarded. -/
theorem State.react_referenceGuarded {s : State} (held : Bool) (hs : s.guardable) : (s.react held).referenceGuarded := by
  have hsequenced := State.sequenced_travelGuarded held hs
  have htravel : (s.sequenced held).followHandMove.travelGuarded := by
    intro h
    have hrole := State.role_of_still (State.followHandMove_still (s.sequenced held))
    rw [State.hoistPeersTracked_of_still (State.followHandMove_still _)]
    refine hsequenced ?_
    rwa [State.hoistTravel, State.doing, State.doing, State.stepNow, hrole, State.followHandMove_seq] at h
  have hmotion : (s.react held).motionFits := State.react_motionFits held hs.1.1 hs.1.2
  rw [State.react_eq] at hmotion ⊢
  exact State.referenceGuarded_of_guards hmotion htravel (State.followHandMove_moveGuarded _)

theorem State.referenceGuarded_of_working {s t : State} (h : t.working = s.working) (hpeers : t.peers = s.peers)
    (hs : s.referenceGuarded) : t.referenceGuarded := by
  have hstage : t.stage = s.stage := congrArg Working.stage h
  have hcfg : t.cfg = s.cfg := congrArg Working.cfg h
  have horigins : t.halt.origins = s.halt.origins := congrArg Working.origins h
  have hhand : t.hand = s.hand := congrArg Working.hand h
  have hseq : t.seq = s.seq := congrArg Working.seq h
  have href : t.level.speedRef = s.level.speedRef := congrArg Working.speedRef h
  simpa only [State.referenceGuarded, State.halted, State.isRunning, State.hoistTravel, State.doing, State.stepNow,
    State.role, State.hoistPeersTracked, State.flagged, hstage, hcfg, horigins, hhand, hseq, href, hpeers] using hs

theorem State.resting.referenceGuarded {s : State} (h : s.resting) : s.referenceGuarded :=
  State.referenceGuarded_of_guards h.motionFits (State.travelGuarded_of_step h.1) fun _ hmove => by
    simp [h.2.1] at hmove

theorem State.react_peers (held : Bool) (s : State) : (s.react held).peers = s.peers := by
  have h := congrArg Still.peers (s.react_still held)
  simpa only [State.still] using h

theorem State.conclude_peers (before after : State) : (State.conclude before after).peers = after.peers :=
  congrArg Still.peers (State.conclude_still before after)

theorem State.conclude_referenceGuarded (before : State) {after : State} (hs : after.guardable) :
    (State.conclude before after).referenceGuarded := by
  refine State.referenceGuarded_of_working (State.conclude_working before after) ?_ (State.react_referenceGuarded _ hs)
  rw [State.conclude_peers, State.react_peers]

/-! ### The entry into RUN -/

theorem State.entering_resting {s : State} (encoder : Option Word16) (ambient : Byte) (hs : s.resting) :
    (s.entering encoder ambient).resting := by
  have hrebuild (t : State) (ht : t.resting) : (t.rebuild encoder).resting := by
    unfold State.rebuild
    dsimp only
    split <;> exact ⟨rfl, ht.2⟩
  have hrole (t : State) (ht : t.resting) : (t.startRole encoder).resting := by
    have h := hrebuild t ht
    unfold State.startRole
    dsimp only
    split <;> exact h
  exact hrole _ hs

theorem State.startKey_motionFits {s : State} (running : s.isRunning = true) (hs : s.motionFits) :
    s.startKey.motionFits := by
  unfold State.startKey
  split
  · exact State.keyActive_motionFits running hs
  · exact hs

theorem State.entered_motionFits {s : State} (encoder : Option Word16) (ambient : Byte) (hs : s.resting) :
    (s.entered encoder ambient).isRunning = true ∧ (s.entered encoder ambient).motionFits := by
  have hentering := (State.entering_resting encoder ambient hs).motionFits
  have hraised : ((s.entering encoder ambient).raiseCauses
      ((s.entering encoder ambient).startCauses encoder)).motionFits := State.raiseCauses_motionFits _ hentering
  have hrunning : ((s.entering encoder ambient).raiseCauses
      ((s.entering encoder ambient).startCauses encoder)).isRunning = true := by
    rw [State.isRunning_of_still (State.raiseCauses_still _ _), State.isRunning_eq_true_iff]
    exact congrArg Still.stage (s.entering_still encoder ambient)
  exact ⟨(State.isRunning_of_still (State.startKey_still _)).trans hrunning,
    State.startKey_motionFits hrunning hraised⟩

theorem State.enterRun_motionFits {s : State} (encoder : Option Word16) (ambient : Byte) (hs : s.resting) :
    (s.enterRun encoder ambient).motionFits := by
  obtain ⟨hrunning, hfits⟩ := State.entered_motionFits encoder ambient hs
  rw [State.enterRun_eq]
  exact State.motionFits_of_working (State.formStatus_working _) (State.react_motionFits false hrunning hfits)

theorem State.enterRun_referenceGuarded {s : State} (encoder : Option Word16) (ambient : Byte)
    (starting : s.stage = .starting) (due : s.loader.start.due s.clock = true) (hs : s.resting) (hhalt : s.haltFits) :
    (s.enterRun encoder ambient).referenceGuarded := by
  have hentered : (s.entered encoder ambient).guardable :=
    ⟨State.entered_motionFits encoder ambient hs, State.entered_haltFits encoder ambient starting due hhalt⟩
  have hpeers (t : State) : t.formStatus.peers = t.peers := congrArg Still.peers t.formStatus_still
  rw [State.enterRun_eq]
  exact State.referenceGuarded_of_working (State.formStatus_working _) (hpeers _)
    (State.react_referenceGuarded false hentered)

theorem State.entering_accumulator (s : State) (encoder : Option Word16) (ambient : Byte) :
    (s.entering encoder ambient).level.accumulator = s.level.accumulator := by
  have hrole (t : State) : (t.startRole encoder).level.accumulator = t.level.accumulator := by
    have h := t.rebuild_accumulator encoder
    unfold State.startRole
    dsimp only
    split <;> exact h
  exact hrole _

theorem State.enterRun_accumulatorFits {s : State} (encoder : Option Word16) (ambient : Byte)
    (hs : s.accumulatorFits) : (s.enterRun encoder ambient).accumulatorFits := by
  have hentering : (s.entering encoder ambient).accumulatorFits := by
    unfold State.accumulatorFits
    rwa [State.entering_accumulator]
  have hraised : ((s.entering encoder ambient).raiseCauses
      ((s.entering encoder ambient).startCauses encoder)).accumulatorFits :=
    State.raiseCauses_keeps (P := State.accumulatorFits) _ (fun _ h => h)
      (fun _ c _ h => State.raiseCause_accumulatorFits c h) _ hentering
  have hkeyed : (s.entered encoder ambient).accumulatorFits := by
    unfold State.entered State.startKey
    split
    · exact State.accumulatorFits_of_level (.inl (State.keyActive_level _)) hraised
    · exact hraised
  rw [State.enterRun_eq]
  exact State.accumulatorFits_of_working (State.formStatus_working _) (State.react_accumulatorFits false hkeyed)

/-! ### Every command -/

theorem State.reading_resting {s : State} (reading : s.reading = true) (hs : s.motionFits) : s.resting :=
  hs.off (State.reading_notRunning reading)

theorem State.Outcome.motionFits {s t : State} {cmd : Instr} (h : s.Outcome cmd t) (hs : s.motionFits) : t.motionFits := by
  cases h with
  | same => exact hs
  | started strap1 strap2 => exact State.resting.motionFits ⟨rfl, rfl, rfl⟩
  | reset => exact State.resting.motionFits ⟨rfl, rfl, rfl⟩
  | refused check reading =>
    have hrest : s.resting := State.reading_resting reading hs
    exact State.resting.motionFits ⟨hrest.1, hrest.2.1, hrest.2.2⟩
  | loaded check reading image c accepted =>
    have hrest : s.resting := State.reading_resting reading hs
    exact State.resting.motionFits ⟨hrest.1, hrest.2.1, hrest.2.2⟩
  | entered encoder ambient starting due =>
    exact State.enterRun_motionFits encoder ambient (hs.off (by simp [State.isRunning, starting]))
  | line i x => exact hs
  | heard l => exact State.motionFits_of_working (s.setLink_working l _) hs
  | begun l k tel => exact State.motionFits_of_working (s.setLink_working l _) hs
  | outbid l a => exact State.motionFits_of_working (s.setLink_working l _) hs
  | beat f => exact hs
  | status f => exact State.motionFits_of_working (State.formStatus_working _) hs
  | sampled a => exact hs
  | patterned => exact hs
  | idled => exact hs
  | event check after running h =>
    obtain ⟨hrunning, hfits⟩ := h.works.motionFits running hs
    exact State.conclude_motionFits _ hrunning hfits

theorem State.Outcome.referenceGuarded {s t : State} {cmd : Instr} (h : s.Outcome cmd t) (hs : s.motionFits) (hhalt : s.haltFits)
    (hguard : s.referenceGuarded) : t.referenceGuarded := by
  cases h with
  | same => exact hguard
  | started strap1 strap2 => exact State.resting.referenceGuarded ⟨rfl, rfl, rfl⟩
  | reset => exact State.resting.referenceGuarded ⟨rfl, rfl, rfl⟩
  | refused check reading =>
    have hrest : s.resting := State.reading_resting reading hs
    exact State.resting.referenceGuarded ⟨hrest.1, hrest.2.1, hrest.2.2⟩
  | loaded check reading image c accepted =>
    have hrest : s.resting := State.reading_resting reading hs
    exact State.resting.referenceGuarded ⟨hrest.1, hrest.2.1, hrest.2.2⟩
  | entered encoder ambient starting due =>
    exact State.enterRun_referenceGuarded encoder ambient starting due (hs.off (by simp [State.isRunning, starting])) hhalt
  | line i x => exact hguard
  | heard l => exact State.referenceGuarded_of_working (s.setLink_working l _) (by simp) hguard
  | begun l k tel => exact State.referenceGuarded_of_working (s.setLink_working l _) (s.setLink_peers l _) hguard
  | outbid l a => exact State.referenceGuarded_of_working (s.setLink_working l _) (by simp) hguard
  | beat f => exact hguard
  | status f =>
    exact State.referenceGuarded_of_working (s := s) (State.formStatus_working _)
      (congrArg Still.peers (State.formStatus_still _)) hguard
  | sampled a => exact hguard
  | patterned => exact hguard
  | idled => exact hguard
  | event check after running h =>
    exact State.conclude_referenceGuarded _ ⟨h.works.motionFits running hs, h.keeps_haltFits running hhalt⟩

theorem State.Outcome.accumulatorFits {s t : State} {cmd : Instr} (h : s.Outcome cmd t) (hs : s.accumulatorFits) : t.accumulatorFits := by
  cases h with
  | same => exact hs
  | started strap1 strap2 => exact accumulator_zero_fits
  | reset => exact accumulator_zero_fits
  | refused check reading => exact hs
  | loaded check reading image c accepted => exact hs
  | entered encoder ambient => exact State.enterRun_accumulatorFits encoder ambient hs
  | line i x => exact hs
  | heard l => exact State.accumulatorFits_of_working (s.setLink_working l _) hs
  | begun l k tel => exact State.accumulatorFits_of_working (s.setLink_working l _) hs
  | outbid l a => exact State.accumulatorFits_of_working (s.setLink_working l _) hs
  | beat f => exact hs
  | status f => exact State.accumulatorFits_of_working (State.formStatus_working _) hs
  | sampled a => exact hs
  | patterned => exact hs
  | idled => exact hs
  | event check after running h => exact State.conclude_accumulatorFits _ (h.works.accumulatorFits hs)

theorem State.tick_working (s : State) : s.tick.working = s.working := by
  unfold State.tick
  split <;> rfl

theorem State.tick_peers (s : State) : s.tick.peers = s.peers := by
  unfold State.tick
  split <;> rfl

/-- Settles O56: every operation of an event and every move of the sequencer keeps motion (`State.Works`), the moves of a
hoist in travel end with its hoist peers TRACKED or the step ended, and the accumulator is only kept, cleared or clamped. -/
theorem stepKeepsMotion : Obligations.StepKeepsMotion := by
  intro s t h
  refine ⟨fun hs => ?_, fun hs hhalt hguard => ?_, fun hs => ?_⟩
  · exact State.step_keeps (P := State.motionFits) (fun _ _ h => h)
      (fun s => State.motionFits_of_working s.tick_working) (fun _ _ _ hs hout => hout.motionFits hs) hs h
  · rcases State.step_outcome h with rfl | ⟨rest, cmd, hout⟩
    · exact State.referenceGuarded_of_working s.tick_working s.tick_peers hguard
    · exact hout.referenceGuarded hs hhalt hguard
  · exact State.step_keeps (P := State.accumulatorFits) (fun _ _ h => h)
      (fun s => State.accumulatorFits_of_working s.tick_working) (fun _ _ _ hs hout => hout.accumulatorFits hs) hs h

end Sys2Proof.Machine

/-!
PROOFS. The motion journal (O57): its law of steps in order under the beginning and the completion of a step, and the law of the
sequencer under every event and every move.
-/

namespace Sys2Proof.Machine

/-! ### The law of steps in order -/

theorem journalFits_nil (r : Role) : journalFits r [] := by simp [journalFits]

/-- A journal fits when its top is the step that its length gives it and the rest, all DONE, fits. -/
theorem journalFits_cons (r : Role) (e : JournalEntry) (rest : List JournalEntry) :
    journalFits r (e :: rest) ↔
      rest.reverse.map (·.step) = r.steps.take rest.length ∧ r.steps[rest.length]? = some e.step ∧
        ∀ x ∈ rest, x.state = .done := by
  have hlength : (rest.reverse.map (·.step)).length = rest.length := by simp
  simp only [journalFits, List.reverse_cons, List.map_append, List.map_cons, List.map_nil, List.length_cons,
    List.drop_succ_cons, List.drop_zero, List.take_add_one]
  rw [← and_assoc]
  refine and_congr_left fun _ => ⟨fun h => ?_, fun h => ?_⟩
  · have hlong : rest.length + 1 ≤ r.steps.length := by
      have := congrArg List.length h
      simp only [List.length_append, List.length_map, List.length_reverse, List.length_singleton, List.length_take] at this
      rcases hget : r.steps[rest.length]? with _ | k
      · rw [hget] at this
        simp at this
        omega
      · have := (List.getElem?_eq_some_iff.mp hget).1
        omega
    obtain ⟨hrest, htop⟩ := List.append_inj h (by simp; omega)
    refine ⟨hrest, ?_⟩
    rcases hget : r.steps[rest.length]? with _ | k
    · rw [hget] at htop
      simp at htop
    · rw [hget] at htop
      simpa using htop.symm
  · rw [h.1, h.2]
    rfl

/-- The state and the start of the top are free; the top's step is not. -/
theorem journalFits_top {r : Role} {e e' : JournalEntry} {rest : List JournalEntry} (hstep : e'.step = e.step)
    (h : journalFits r (e :: rest)) : journalFits r (e' :: rest) := by
  rw [journalFits_cons] at h ⊢
  rwa [hstep]

theorem journalFits_tail {r : Role} {e : JournalEntry} {rest : List JournalEntry} (h : journalFits r (e :: rest)) :
    journalFits r rest := by
  obtain ⟨hrest, -, hdone⟩ := (journalFits_cons r e rest).mp h
  exact ⟨hrest, fun x hx => hdone x (List.mem_of_mem_drop hx)⟩

theorem journalFits_complete {r : Role} {j : List JournalEntry} (dir : Direction) (h : journalFits r j) :
    journalFits r (journalComplete dir j) := by
  cases dir with
  | forward =>
    cases j with
    | nil => exact journalFits_nil r
    | cons e rest => exact journalFits_top (e := e) (e' := { e with state := .done }) rfl h
  | inverse =>
    cases j with
    | nil => exact journalFits_nil r
    | cons e rest => exact journalFits_tail h

/-- The forward step after another stands after it in the role's list (R37). -/
theorem ForwardStep.next_in_list {r : Role} {n : Nat} {k k' : ForwardStep} (h : r.steps[n]? = some k)
    (hnext : k.next = some k') : r.steps[n + 1]? = some k' := by
  have hn : n < r.steps.length := (List.getElem?_eq_some_iff.mp h).1
  cases r with
  | desk => simp [Role.steps] at hn
  | barrier =>
    rcases n with _ | _ | n <;> simp [Role.steps] at h hn <;> subst h <;> simp_all [Role.steps, ForwardStep.next]
  | hoist =>
    rcases n with _ | _ | n <;> simp [Role.steps] at h hn <;> subst h <;> simp_all [Role.steps, ForwardStep.next]
  | signal =>
    rcases n with _ | _ | _ | n <;> simp [Role.steps] at h hn <;> subst h <;> simp_all [Role.steps, ForwardStep.next]

/-- The step that a journal and its top may name next (R39). -/
inductive Continues (r : Role) : List JournalEntry → Step → Prop
  | first (k : ForwardStep) (head : r.steps[0]? = some k) : Continues r [] { kind := k, dir := .forward }
  | rerun (e : JournalEntry) (rest : List JournalEntry) (partway : e.state = .partway) :
      Continues r (e :: rest) { kind := e.step, dir := .forward }
  | push (e : JournalEntry) (rest : List JournalEntry) (done : e.state = .done) (k : ForwardStep)
      (next : e.step.next = some k) : Continues r (e :: rest) { kind := k, dir := .forward }
  | undo (e : JournalEntry) (rest : List JournalEntry) : Continues r (e :: rest) { kind := e.step, dir := .inverse }

/-- A step that the journal names leaves it fitting, with its entry PARTIAL on top. -/
theorem journalBegin_fits {r : Role} {j : List JournalEntry} {st : Step} (now : Time) (h : Continues r j st)
    (hj : journalFits r j) :
    journalFits r (journalBegin now st j) ∧
      ∃ e rest, journalBegin now st j = e :: rest ∧ e.step = st.kind ∧ e.state = .partway := by
  cases h with
  | first k head =>
    refine ⟨?_, _, _, rfl, rfl, rfl⟩
    exact (journalFits_cons r _ []).mpr ⟨by simp, head, by simp⟩
  | rerun e rest partway =>
    have hbegin : journalBegin now { kind := e.step, dir := .forward } (e :: rest) = { e with start := now } :: rest := by
      simp [journalBegin, partway]
    rw [hbegin]
    exact ⟨journalFits_top (e := e) (e' := { e with start := now }) rfl hj, _, _, rfl, rfl, partway⟩
  | push e rest done k next =>
    have hbegin : journalBegin now { kind := k, dir := .forward } (e :: rest) =
        { step := k, state := .partway, start := now } :: e :: rest := by
      simp [journalBegin, done]
    rw [hbegin]
    obtain ⟨hrest, htop, hdone⟩ := (journalFits_cons r e rest).mp hj
    refine ⟨(journalFits_cons r _ (e :: rest)).mpr ⟨?_, ForwardStep.next_in_list htop next, ?_⟩, _, _, rfl, rfl, rfl⟩
    · simp [hrest, htop, List.take_add_one]
    · rintro x (_ | ⟨_, hx⟩)
      · exact done
      · exact hdone x hx
  | undo e rest =>
    exact ⟨journalFits_top (e := e) (e' := { e with state := .partway, start := now }) rfl hj, _, _, rfl, rfl, rfl⟩

/-! ### The candidate -/

theorem Role.steps_head (r : Role) : r.steps.head? = r.steps[0]? := by cases r <;> rfl

/-- The candidate is a step that the journal names (R39). -/
theorem State.journalCandidate_continues {s : State} {st : Step} (h : s.journalCandidate = some st) :
    Continues s.role s.seq.journal st := by
  unfold State.journalCandidate at h
  split at h
  · cases h
  next hj =>
    obtain ⟨k, hk, rfl⟩ := Option.map_eq_some_iff.mp h
    rw [hj]
    exact .first k (s.role.steps_head ▸ hk)
  next e rest _ hj =>
    rw [hj]
    split at h
    next hpart =>
      obtain rfl := Option.some.inj h
      exact .rerun e rest (beq_iff_eq.mp hpart)
    next hdone =>
      obtain ⟨k, hk, rfl⟩ := Option.map_eq_some_iff.mp h
      have hdone : e.state = .done := by cases hx : e.state <;> simp_all
      exact .push e rest hdone k hk
  · cases h
  next e rest _ hj =>
    obtain rfl := Option.some.inj h
    rw [hj]
    exact .undo e rest

/-- While GREEN is in progress or DONE it stands on top of the journal (R92). -/
theorem State.greenLost_top {s : State} (hs : s.journalKept) (h : s.greenLost = true) :
    Continues s.role s.seq.journal { kind := .green, dir := .inverse } := by
  obtain ⟨-, htop, -⟩ := hs
  simp only [State.greenLost, Bool.and_eq_true, Bool.or_eq_true] at h
  rcases h.2 with hdoing | ⟨hdone, -⟩
  · obtain ⟨p, hp, hstep⟩ : ∃ p, s.seq.step = some p ∧ p.step = { kind := .green, dir := .forward } := by
      simpa [State.doing, State.stepNow] using hdoing
    obtain ⟨e, rest, hj, he, -⟩ := htop p hp
    have hgreen : e.step = .green := by rw [he, hstep]
    rw [hj, ← hgreen]
    exact .undo e rest
  · unfold State.topDone at hdone
    split at hdone
    next e rest hj =>
      rw [Bool.and_eq_true, beq_iff_eq] at hdone
      rw [hj, ← hdone.1]
      exact .undo e rest
    · cases hdone

theorem State.candidate_continues {s : State} {st : Step} (hs : s.journalKept) (h : s.candidate = some st) :
    s.inRecovery = false ∧ Continues s.role s.seq.journal st := by
  unfold State.candidate at h
  split at h
  · cases h
  next hrecovery =>
    refine ⟨by simpa using hrecovery, ?_⟩
    split at h
    next hgreen =>
      obtain rfl := Option.some.inj h
      exact State.greenLost_top hs hgreen
    next => exact State.journalCandidate_continues h

/-! ### The law of the sequencer -/

/-- The journal as it was, the step in progress as it was or ended. -/
def State.JournalSame (s t : State) : Prop :=
  t.seq.journal = s.seq.journal ∧ (t.seq.step = s.seq.step ∨ t.seq.step = none)

theorem State.journalKept_of_same {s t : State} (hstage : t.stage = s.stage) (hcfg : t.cfg = s.cfg)
    (hrecovering : t.signal.recovering = s.signal.recovering) (h : s.JournalSame t) (hs : s.journalKept) :
    t.journalKept := by
  obtain ⟨hjournal, hstep⟩ := h
  obtain ⟨hfits, htop, hrecovery, hoff⟩ := hs
  have hin : t.inRecovery = s.inRecovery := by rw [State.inRecovery, State.role, hcfg, hrecovering]; rfl
  have hrunning : t.isRunning = s.isRunning := by rw [State.isRunning, hstage]; rfl
  refine ⟨by rwa [hjournal, State.role, hcfg], fun p hp => ?_, fun h => ?_, fun h => ?_⟩
  · rcases hstep with hstep | hstep
    · rw [hjournal]
      exact htop p (hstep ▸ hp)
    · simp [hstep] at hp
  · rcases hstep with hstep | hstep
    · exact hstep.trans (hrecovery (hin ▸ h))
    · exact hstep
  · obtain ⟨hempty, hnone⟩ := hoff (hrunning ▸ h)
    exact ⟨hjournal.trans hempty, hstep.elim (·.trans hnone) id⟩

theorem State.journalKept_of_unmoved {s t : State} (hunmoved : t.unmoved = s.unmoved) (h : s.JournalSame t)
    (hs : s.journalKept) : t.journalKept :=
  State.journalKept_of_same (congrArg (·.still.stage) hunmoved) (congrArg (·.still.cfg) hunmoved)
    (congrArg Unmoved.recovering hunmoved) h hs

theorem State.journalKept_of_working {s t : State} (h : t.working = s.working) (hs : s.journalKept) :
    t.journalKept := by
  have hseq : t.seq = s.seq := congrArg Working.seq h
  exact State.journalKept_of_same (congrArg Working.stage h) (congrArg Working.cfg h) (congrArg Working.recovering h)
    ⟨by rw [hseq], .inl (by rw [hseq])⟩ hs

theorem State.addOrigin_journalSame (s : State) (n : Nat) (r : HaltReason) : s.JournalSame (s.addOrigin n r) := by
  rcases s.addOrigin_cases n r with ⟨-, h⟩ | ⟨-, -, hstep, -, -, hjournal⟩
  · rw [h]
    exact ⟨rfl, .inl rfl⟩
  · exact ⟨hjournal, .inr hstep⟩

theorem State.raiseCause_journalSame (s : State) (c : LocalCause) : s.JournalSame (s.raiseCause c) := by
  rcases s.raiseCause_cases c with ⟨-, h⟩ | ⟨-, h⟩ <;> rw [h]
  · exact ⟨rfl, .inl rfl⟩
  · rw [State.JournalSame, State.formHalt_seq]
    exact State.addOrigin_journalSame _ _ _

theorem State.discardInterrupted_journalSame (s : State) : s.JournalSame s.discardInterrupted := by
  unfold State.discardInterrupted
  split <;> exact ⟨rfl, .inl rfl⟩

theorem State.raiseCause_journalKept {s : State} (c : LocalCause) (hs : s.journalKept) : (s.raiseCause c).journalKept :=
  State.journalKept_of_unmoved (s.raiseCause_unmoved c) (s.raiseCause_journalSame c) hs

theorem State.enterHand_journalKept {s : State} (hs : s.journalKept) : s.enterHand.journalKept :=
  State.journalKept_of_unmoved s.enterHand_unmoved s.discardInterrupted_journalSame hs

theorem State.keyActive_journalKept {s : State} (hs : s.journalKept) : s.keyActive.journalKept := by
  unfold State.keyActive
  split
  · split
    · exact State.enterHand_journalKept hs
    · exact hs
  · exact hs

theorem State.endStep_journalKept {s : State} (hs : s.journalKept) : s.endStep.journalKept :=
  State.journalKept_of_unmoved s.endStep_unmoved ⟨rfl, .inr rfl⟩ hs

theorem State.stopTravel_journalKept {s : State} (hs : s.journalKept) : s.stopTravel.journalKept := by
  rcases s.stopTravel_cases with h | ⟨-, -, -, h⟩ | ⟨-, -, -, h⟩ <;> rw [h]
  · exact hs
  · exact State.endStep_journalKept hs
  · exact hs

theorem State.completeStep_journalKept {s : State} (st : Step) (hs : s.journalKept) :
    (s.completeStep st).journalKept := by
  obtain ⟨hfits, -, -, hoff⟩ := hs
  refine ⟨journalFits_complete st.dir hfits, fun p hp => by simp at hp, fun _ => rfl, fun h => ⟨?_, rfl⟩⟩
  rw [State.completeStep_journal, (hoff h).1]
  cases st.dir <;> rfl

theorem barrierJournal_fits (now : Time) (up down locked : Bool) : journalFits .barrier (barrierJournal now up down locked) := by
  unfold barrierJournal
  split
  · exact journalFits_nil _
  · split <;> simp [journalFits, Role.steps]

theorem hoistJournal_fits (now : Time) (seated locksIn locksOut atTop : Bool) :
    journalFits .hoist (hoistJournal now seated locksIn locksOut atTop) := by
  unfold hoistJournal
  split
  · split
    · exact journalFits_nil _
    · split <;> simp [journalFits, Role.steps]
  · simp [journalFits, Role.steps]

theorem State.rebuiltJournal_fits {s : State} (encoder : Option Word16) (hs : journalFits s.role s.seq.journal) :
    journalFits s.role (s.rebuiltJournal encoder) := by
  unfold State.rebuiltJournal
  split
  next hrole =>
    rw [hrole]
    exact barrierJournal_fits _ _ _ _
  next hrole =>
    rw [hrole]
    exact hoistJournal_fits _ _ _ _ _
  · exact hs

@[simp] theorem State.rebuild_seq (s : State) (encoder : Option Word16) :
    (s.rebuild encoder).seq = { journal := s.rebuiltJournal encoder } := by
  unfold State.rebuild
  dsimp only
  split <;> rfl

theorem State.rebuild_fixed (s : State) (encoder : Option Word16) :
    (s.rebuild encoder).stage = s.stage ∧ (s.rebuild encoder).cfg = s.cfg ∧ (s.rebuild encoder).signal = s.signal := by
  unfold State.rebuild
  dsimp only
  split <;> exact ⟨rfl, rfl, rfl⟩

/-- A rebuild in RUN or HAND gives a journal that fits, with no step in progress (R47). -/
theorem State.rebuild_journalKept {s : State} (encoder : Option Word16) (running : s.isRunning = true)
    (hs : journalFits s.role s.seq.journal) : (s.rebuild encoder).journalKept := by
  obtain ⟨hstage, hcfg, -⟩ := s.rebuild_fixed encoder
  have hrunning : (s.rebuild encoder).isRunning = true := by rwa [State.isRunning, hstage]
  refine ⟨?_, fun p hp => by simp at hp, fun _ => by simp, fun h => absurd (hrunning.symm.trans h) (by decide)⟩
  rw [State.rebuild_seq, State.role, hcfg]
  exact State.rebuiltJournal_fits encoder hs

theorem State.endHandMove_working (s : State) :
    s.endHandMove.seq = s.seq ∧ s.endHandMove.stage = s.stage ∧ s.endHandMove.cfg = s.cfg := by
  unfold State.endHandMove
  split <;> exact ⟨rfl, rfl, rfl⟩

theorem State.leaveHand_journalKept {s : State} (encoder : Option Word16) (running : s.isRunning = true)
    (hs : s.journalKept) : (s.leaveHand encoder).journalKept := by
  obtain ⟨hseq, hstage, hcfg⟩ := s.endHandMove_working
  refine State.rebuild_journalKept encoder (by rw [State.isRunning, hstage]; exact running) ?_
  rw [hseq, State.role, hcfg]
  exact hs.1

/-- The end of recovery takes a journal that fits a SIGNAL station (R68). -/
theorem State.endRecovery_journalKept {s : State} (running : s.isRunning = true) (recovering : s.inRecovery = true)
    (hs : s.journalKept) : s.endRecovery.journalKept := by
  have hstep : s.endRecovery.seq.step = none := hs.2.2.1 recovering
  have hrole : s.role = .signal := by
    simp only [State.inRecovery, Bool.and_eq_true, beq_iff_eq] at recovering
    exact recovering.1
  refine ⟨?_, fun p hp => by simp [hstep] at hp, fun _ => hstep, fun h => absurd (running.symm.trans h) (by decide)⟩
  show journalFits s.role s.recoveredJournal
  rw [hrole]
  unfold State.recoveredJournal
  split
  · exact journalFits_nil _
  · simp [journalFits, Role.steps]

theorem State.Works.journalKept {s t : State} (h : s.Works t) (running : s.isRunning = true) (hs : s.journalKept) :
    t.isRunning = true ∧ t.journalKept := by
  have still {t u : State} (ht : t.isRunning = true) (hstill : u.still = t.still) : u.isRunning = true :=
    (State.isRunning_of_still hstill).trans ht
  induction h with
  | refl => exact ⟨running, hs⟩
  | congr _ same ih =>
    have hstage := congrArg Working.stage same
    exact ⟨(congrArg (· == Stage.running) hstage).trans ih.1, State.journalKept_of_working same ih.2⟩
  | raised _ c ih => exact ⟨still ih.1 (State.raiseCause_still _ c), State.raiseCause_journalKept c ih.2⟩
  | joined _ n known r ih =>
    exact ⟨still ih.1 (State.addOrigin_still _ n r),
      State.journalKept_of_unmoved (State.addOrigin_unmoved _ n r) (State.addOrigin_journalSame _ n r) ih.2⟩
  | @resumed t _ ih =>
    refine ⟨still ih.1 (State.resume_still _), ?_⟩
    rcases t.resume_cases.2 with h | ⟨-, h⟩ <;> rw [h]
    · exact ih.2
    · exact State.journalKept_of_unmoved (State.discardInterrupted_unmoved _) (State.discardInterrupted_journalSame _) ih.2
  | ended _ ih => exact ⟨ih.1, State.endStep_journalKept ih.2⟩
  | completed _ st now ih => exact ⟨ih.1, State.completeStep_journalKept st ih.2⟩
  | reversed _ ih => exact ⟨still ih.1 (State.stopTravel_still _), State.stopTravel_journalKept ih.2⟩
  | key _ panel ih => exact ⟨still ih.1 (State.keyActive_still _), State.keyActive_journalKept ih.2⟩
  | cancelled _ pending ih => exact ih
  | left _ inHand encoder ih =>
    exact ⟨(State.leaveHand_isRunning _ encoder).trans ih.1, State.leaveHand_journalKept encoder ih.1 ih.2⟩
  | moved _ m inHand hmove taken ih =>
    refine ⟨still ih.1 (State.beginHandMove_still _ m), ?_⟩
    unfold State.beginHandMove
    dsimp only
    split <;> exact ih.2
  | handEnded _ ih =>
    refine ⟨still ih.1 (State.endHandMove_still _), ?_⟩
    unfold State.endHandMove
    split <;> exact ih.2
  | recovered _ recovering ih => exact ⟨ih.1, State.endRecovery_journalKept ih.1 recovering ih.2⟩
  | rested _ ih => exact ih
  | tripped _ ih => exact ih
  | referenced _ w up work kind ih => exact ih

/-! ### The law under the reactions -/

theorem State.beginStep_journalKept {s : State} {st : Step} (b : Bool) (running : s.isRunning = true)
    (recovered : s.inRecovery = false) (names : Continues s.role s.seq.journal st)
    (hs : journalFits s.role s.seq.journal) : (s.beginStep st b).journalKept := by
  have hunmoved := s.beginStep_unmoved st b
  have hcfg : (s.beginStep st b).cfg = s.cfg := congrArg (·.still.cfg) hunmoved
  have hrecovering : (s.beginStep st b).signal.recovering = s.signal.recovering := congrArg Unmoved.recovering hunmoved
  have hrunning := (State.isRunning_of_still (s.beginStep_still st b)).trans running
  obtain ⟨hfits, htop⟩ := journalBegin_fits s.clock names hs
  refine ⟨?_, fun p hp => ?_, fun h => ?_, fun h => absurd (hrunning.symm.trans h) (by decide)⟩
  · rw [State.beginStep_journal, State.role, hcfg]
    exact hfits
  · rw [State.beginStep_step, Option.some.injEq] at hp
    rw [State.beginStep_journal, ← hp]
    exact htop
  · rw [State.inRecovery, State.role, hcfg, hrecovering] at h
    exact absurd (recovered.symm.trans h) (by decide)

theorem State.nextMove_journalKept {s : State} {held b : Bool} {r : Bool × State} (running : s.isRunning = true)
    (hs : s.journalKept) (h : s.nextMove held b = some r) : r.2.journalKept := by
  unfold State.nextMove at h
  split at h
  next st hst =>
    have causes (t : State) (ht : t.journalKept) : (t.raiseCauses s.travelCauses).journalKept :=
      State.raiseCauses_keeps (P := State.journalKept) _ (fun _ h => h)
        (fun _ c _ h => State.raiseCause_journalKept c h) _ ht
    rcases State.endMove_cases h with ⟨hgreen, rfl⟩ | ⟨-, -, -, rfl | rfl⟩ | ⟨-, -, -, rfl⟩ | ⟨-, -, -, rfl⟩ |
      ⟨-, -, -, -, rfl⟩
    · have hrecovered : s.inRecovery = false := by
        simp only [State.greenLost, Bool.and_eq_true, Bool.not_eq_true'] at hgreen
        exact hgreen.1.1.2
      have hnames := State.greenLost_top hs hgreen
      exact State.beginStep_journalKept (s := s.endStep) false running hrecovered hnames hs.1
    · exact State.completeStep_journalKept (s := s.draw.2) st hs
    · exact causes s.draw.2 hs
    · exact causes s hs
    · exact State.completeStep_journalKept st hs
    · exact State.endStep_journalKept hs
  · obtain ⟨st, hcandidate, -, -, -, rfl⟩ := State.beginMove_cases h
    obtain ⟨hrecovered, hnames⟩ := State.candidate_continues hs hcandidate
    exact State.beginStep_journalKept b running hrecovered hnames hs.1

theorem State.settle_journalKept {s : State} (hs : s.journalKept) : s.settle.journalKept := by
  have hgranted : s.grantHand.journalKept := by
    unfold State.grantHand
    split
    · exact State.enterHand_journalKept hs
    · exact hs
  unfold State.settle
  dsimp only
  split <;> exact hgranted

/-- What the reactions before the end of recovery leave. -/
theorem State.beforeRecovery_working (s : State) :
    s.followReference.followPrewarn.followEvidence.followStall.working = s.working := by
  have hprewarn (t : State) : t.followPrewarn.working = t.working := by
    unfold State.followPrewarn
    split
    · split
      · split <;> rfl
      · rfl
    · rfl
  have hevidence (t : State) : t.followEvidence.working = t.working := by
    unfold State.followEvidence
    split
    · split <;> rfl
    · rfl
  have hstall (t : State) : t.followStall.working = t.working := by
    unfold State.followStall
    split
    · split <;> rfl
    · rfl
  rw [hstall, hevidence, hprewarn, State.followReference_working]

theorem State.prepared_journalKept {s : State} (running : s.isRunning = true) (hs : s.journalKept) :
    s.prepared.journalKept := by
  have hbefore := State.journalKept_of_working s.beforeRecovery_working hs
  have hrunning : s.followReference.followPrewarn.followEvidence.followStall.isRunning = true :=
    (congrArg (· == Stage.running) (congrArg Working.stage s.beforeRecovery_working)).trans running
  rcases State.followRecovery_cases s.followReference.followPrewarn.followEvidence.followStall with h | ⟨hin, h⟩ <;>
    rw [State.prepared, h]
  · exact hbefore
  · exact State.endRecovery_journalKept hrunning hin hbefore

theorem State.sequenced_journalKept {s : State} (held : Bool) (running : s.isRunning = true) (hs : s.journalKept) :
    (s.sequenced held).journalKept := by
  refine (State.sequenced_keeps (P := fun t => t.isRunning = true ∧ t.journalKept) (fun t ht => ?_)
    (fun t b r ht hm => ?_) ⟨(State.isRunning_of_still s.prepared_still).trans running,
      State.prepared_journalKept running hs⟩).2
  · exact ⟨(State.isRunning_of_still t.settle_still).trans ht.1, State.settle_journalKept ht.2⟩
  · exact ⟨(State.isRunning_of_still (State.nextMove_still hm)).trans ht.1, State.nextMove_journalKept ht.1 ht.2 hm⟩

theorem State.react_journalKept {s : State} (held : Bool) (running : s.isRunning = true) (hs : s.journalKept) :
    (s.react held).journalKept := by
  have hmoved : (s.sequenced held).followHandMove.journalKept :=
    State.journalKept_of_unmoved (State.followHandMove_unmoved _)
      ⟨by rw [State.followHandMove_seq], .inl (by rw [State.followHandMove_seq])⟩ (State.sequenced_journalKept held running hs)
  rw [State.react_eq]
  exact hmoved

theorem State.conclude_journalKept (before : State) {after : State} (running : after.isRunning = true)
    (hs : after.journalKept) : (State.conclude before after).journalKept :=
  State.journalKept_of_working (State.conclude_working before after) (State.react_journalKept _ running hs)

/-! ### Every command -/

theorem State.entering_journalKept {s : State} (encoder : Option Word16) (ambient : Byte)
    (hs : s.seq.journal = []) : (s.entering encoder ambient).journalKept := by
  have hrole (t : State) (ht : t.isRunning = true) (hj : t.seq.journal = []) : (t.startRole encoder).journalKept := by
    have h := State.rebuild_journalKept encoder ht (hj ▸ journalFits_nil _)
    have hkept (u : State) (hu : u.stage = (t.rebuild encoder).stage ∧ u.cfg = (t.rebuild encoder).cfg ∧
        u.seq = (t.rebuild encoder).seq ∧ u.signal.recovering = (t.rebuild encoder).signal.recovering) :
        u.journalKept := by
      obtain ⟨hstage, hcfg, hseq, hrec⟩ := hu
      exact State.journalKept_of_same hstage hcfg hrec ⟨by rw [hseq], .inl (by rw [hseq])⟩ h
    unfold State.startRole
    dsimp only
    split <;> exact hkept _ ⟨rfl, rfl, rfl, rfl⟩
  exact hrole _ rfl hs

theorem State.enterRun_journalKept {s : State} (encoder : Option Word16) (ambient : Byte)
    (hs : s.seq.journal = []) : (s.enterRun encoder ambient).journalKept := by
  have hentering := State.entering_journalKept encoder ambient hs
  have hraised : ((s.entering encoder ambient).raiseCauses
      ((s.entering encoder ambient).startCauses encoder)).journalKept :=
    State.raiseCauses_keeps (P := State.journalKept) _ (fun _ h => h)
      (fun _ c _ h => State.raiseCause_journalKept c h) _ hentering
  have hkeyed : (s.entered encoder ambient).journalKept := by
    unfold State.entered State.startKey
    split
    · exact State.keyActive_journalKept hraised
    · exact hraised
  have hrunning : (s.entered encoder ambient).isRunning = true := by
    rw [State.isRunning_eq_true_iff]
    have hstill : (s.entered encoder ambient).still = (s.entering encoder ambient).still := by simp [State.entered]
    exact (congrArg Still.stage hstill).trans (congrArg Still.stage (s.entering_still encoder ambient))
  rw [State.enterRun_eq]
  exact State.journalKept_of_working (State.formStatus_working _) (State.react_journalKept false hrunning hkeyed)

/-- Nothing is in the journal of a station before its first RUN. -/
theorem State.journalKept_of_empty {s : State} (hempty : s.seq.journal = [] ∧ s.seq.step = none) : s.journalKept :=
  ⟨hempty.1 ▸ journalFits_nil _, fun p hp => by simp [hempty.2] at hp, fun _ => hempty.2, fun _ => hempty⟩

theorem State.Outcome.journalKept {s t : State} {cmd : Instr} (h : s.Outcome cmd t) (hs : s.journalKept) : t.journalKept := by
  cases h with
  | same => exact hs
  | started strap1 strap2 => exact State.journalKept_of_empty ⟨rfl, rfl⟩
  | reset => exact State.journalKept_of_empty ⟨rfl, rfl⟩
  | refused check reading =>
    obtain ⟨-, -, -, hoff⟩ := hs
    exact State.journalKept_of_empty (hoff (State.reading_notRunning reading))
  | loaded check reading image c accepted =>
    obtain ⟨-, -, -, hoff⟩ := hs
    exact State.journalKept_of_empty (s := ({ s with crc := check } : State).acceptImage c)
      (hoff (State.reading_notRunning reading))
  | entered encoder ambient starting due =>
    exact State.enterRun_journalKept encoder ambient (hs.2.2.2 (by simp [State.isRunning, starting])).1
  | line i x => exact hs
  | heard l => exact State.journalKept_of_working (s.setLink_working l _) hs
  | begun l k tel => exact State.journalKept_of_working (s.setLink_working l _) hs
  | outbid l a => exact State.journalKept_of_working (s.setLink_working l _) hs
  | beat f => exact hs
  | status f => exact State.journalKept_of_working (State.formStatus_working _) hs
  | sampled a => exact hs
  | patterned => exact hs
  | idled => exact hs
  | event check after running h =>
    obtain ⟨hrunning, hkept⟩ := h.works.journalKept running hs
    exact State.conclude_journalKept _ hrunning hkept

/-- Settles O57: a step that the journal names (`Continues`) leaves it fitting with its entry on top, a completion marks
or drops the top, and every other operation keeps the journal or takes a rebuilt one that fits. -/
theorem stepKeepsJournal : Obligations.StepKeepsJournal := by
  intro s t hs h
  exact State.step_keeps (P := State.journalKept) (fun _ _ h => h)
    (fun s => State.journalKept_of_working s.tick_working) (fun _ _ _ hs hout => hout.journalKept hs) hs h

end Sys2Proof.Machine

/-!
PROOFS. The lamp outputs: what the end of an event leaves of each, and the lamp laws (O58).
-/

namespace Sys2Proof.Machine

/-! ### One output -/

@[simp] theorem Output.followCommand_command (o : Output) (cmd : Command) : (o.followCommand cmd).command = cmd := by
  unfold Output.followCommand
  dsimp only
  split
  · split <;> rfl
  · split <;> rfl

@[simp] theorem Output.followDriven_command (c : StationConfig) (was : Bool) (o : Output) :
    (o.followDriven c was).command = o.command := by
  unfold Output.followDriven
  split <;> rfl

@[simp] theorem Output.followDriven_lit (c : StationConfig) (was : Bool) (o : Output) :
    (o.followDriven c was).lit = o.lit := by
  unfold Output.followDriven
  split <;> rfl

theorem Output.followRetry_command_lit (now : Time) (c : StationConfig) (begins : Bool) (o : Output) :
    (o.followRetry now c begins).command = o.command ∧ (o.followRetry now c begins).lit = o.lit := by
  unfold Output.followRetry
  split
  · split
    · split <;> exact ⟨rfl, rfl⟩
    · split <;> exact ⟨rfl, rfl⟩
  · exact ⟨rfl, rfl⟩

theorem Output.followInterval_command_lit (now : Time) (c : StationConfig) (was : Bool) (old : Command) (o : Output) :
    (o.followInterval now c was old).command = o.command ∧ (o.followInterval now c was old).lit = o.lit := by
  unfold Output.followInterval
  split
  · exact ⟨rfl, rfl⟩
  · split
    · exact ⟨rfl, rfl⟩
    · split
      · exact ⟨rfl, rfl⟩
      · split
        · exact ⟨rfl, rfl⟩
        · split <;> exact ⟨rfl, rfl⟩

/-- The output under its new command and lit condition, before its retry and its intervals follow. -/
def Output.shown (cmd : Command) (lit : Bool) (o : Output) : Output := { o.followCommand cmd with lit := lit }

@[simp] theorem Output.shown_command (cmd : Command) (lit : Bool) (o : Output) : (o.shown cmd lit).command = cmd :=
  o.followCommand_command cmd

@[simp] theorem Output.shown_lit (cmd : Command) (lit : Bool) (o : Output) : (o.shown cmd lit).lit = lit := rfl

/-- The output with its retry and its PWM period brought up to date, before its check timer follows. -/
def Output.retried (now : Time) (c : StationConfig) (cmd : Command) (lit : Bool) (o : Output) : Output :=
  ((o.shown cmd lit).followRetry now c (lit && !o.lit)).followDriven c o.driven

theorem Output.follow_of_diagnostics {cfg : OutputConfig} (h : cfg.diagnostics = true) (now : Time) (c : StationConfig)
    (cmd : Command) (lit : Bool) (o : Output) :
    o.follow now c cfg cmd lit = (o.retried now c cmd lit).followInterval now c o.driven o.command := by
  simp [Output.follow, Output.retried, Output.shown, h]

theorem Output.follow_of_no_diagnostics {cfg : OutputConfig} (h : cfg.diagnostics = false) (now : Time)
    (c : StationConfig) (cmd : Command) (lit : Bool) (o : Output) :
    o.follow now c cfg cmd lit = o.retried now c cmd lit := by
  simp [Output.follow, Output.retried, Output.shown, h]

theorem Output.retried_command_lit (now : Time) (c : StationConfig) (cmd : Command) (lit : Bool) (o : Output) :
    (o.retried now c cmd lit).command = cmd ∧ (o.retried now c cmd lit).lit = lit := by
  obtain ⟨hcommand, hlit⟩ := Output.followRetry_command_lit now c (lit && !o.lit) (o.shown cmd lit)
  simp [Output.retried, hcommand, hlit]

/-- An output that follows takes its new command and lit condition. -/
theorem Output.follow_command_lit (now : Time) (c : StationConfig) (cfg : OutputConfig) (cmd : Command) (lit : Bool)
    (o : Output) : (o.follow now c cfg cmd lit).command = cmd ∧ (o.follow now c cfg cmd lit).lit = lit := by
  obtain ⟨hcommand, hlit⟩ := o.retried_command_lit now c cmd lit
  cases h : cfg.diagnostics with
  | true =>
    obtain ⟨hc, hl⟩ := Output.followInterval_command_lit now c o.driven o.command (o.retried now c cmd lit)
    rw [Output.follow_of_diagnostics h]
    exact ⟨hc.trans hcommand, hl.trans hlit⟩
  | false =>
    rw [Output.follow_of_no_diagnostics h]
    exact ⟨hcommand, hlit⟩

/-! ### The outputs at the end of an event -/

theorem State.followLamps_output (s : State) (i : Fin 12) :
    s.followLamps.lamps.outputs[i] =
      s.lamps.outputs[i].follow s.clock s.cfg s.cfg.outputs[i] (s.outputCommand s.cfg.outputs[i])
        ((s.outputCommand s.cfg.outputs[i]).lit s.flashPhase s.cfg.flashPeriod) := by
  simp [State.followLamps]

theorem State.followLamps_functionCommand (s : State) (f : LampFunction) :
    s.followLamps.functionCommand f = s.functionCommand f := by
  cases f <;> rfl

theorem State.formStatus_functionCommand (s : State) (f : LampFunction) :
    s.formStatus.functionCommand f = s.functionCommand f := by
  unfold State.formStatus
  split
  · rfl
  · cases f <;> rfl

theorem State.noteChange_functionCommand (s : State) (b : Bool) (f : LampFunction) :
    (s.noteChange b).functionCommand f = s.functionCommand f := by
  rcases s.noteChange_cases b with h | ⟨-, h⟩ <;> rw [h]
  · cases f <;> rfl
  · exact s.formStatus_functionCommand f

theorem State.outputCommand_congr {s t : State} (hstill : t.still = s.still)
    (hfunction : ∀ f, t.functionCommand f = s.functionCommand f) (o : OutputConfig) :
    t.outputCommand o = s.outputCommand o := by
  have hcfg : t.cfg = s.cfg := congrArg Still.cfg hstill
  rw [State.outputCommand, State.bothFailed_of_still hstill, hcfg, hfunction, State.outputCommand]

/-- The state in which the lamps are judged at the end of an event. -/
def State.worked (held : Bool) (s : State) : State := (s.sequenced held).followHandMove

theorem State.react_worked (held : Bool) (s : State) : s.react held = (s.worked held).followLamps := State.react_eq held s

@[simp] theorem State.worked_still (held : Bool) (s : State) : (s.worked held).still = s.still := by
  simp [State.worked]

theorem State.sequenced_unmoved (held : Bool) (s : State) : (s.sequenced held).unmoved = s.prepared.unmoved := by
  rw [State.sequenced_eq, State.advance_unmoved]

theorem State.worked_unmoved (held : Bool) (s : State) : (s.worked held).unmoved = s.prepared.unmoved := by
  rw [State.worked, State.followHandMove_unmoved, State.sequenced_unmoved]

/-- No reaction before the lamps touches an output. -/
theorem State.worked_outputs (held : Bool) (s : State) : (s.worked held).lamps.outputs = s.lamps.outputs :=
  (congrArg (·.lamps.outputs) (s.worked_unmoved held)).trans s.prepared_outputs

@[simp] theorem State.noteChange_lamps (s : State) (b : Bool) : (s.noteChange b).lamps = s.lamps := by
  rcases s.noteChange_cases b with h | ⟨-, h⟩ <;> rw [h]
  unfold State.formStatus
  split <;> rfl

/-- The end of an event leaves the lamps as they are judged after the sequencer's work. -/
theorem State.conclude_lamps (before after : State) :
    (State.conclude before after).lamps = (after.worked (before.reversalStopped after)).followLamps.lamps := by
  rcases State.conclude_cases before after with h | h <;> rw [h, State.react_worked]
  exact State.noteChange_lamps _ _

theorem State.conclude_functionCommand (before after : State) (f : LampFunction) :
    (State.conclude before after).functionCommand f =
      (after.worked (before.reversalStopped after)).functionCommand f := by
  rcases State.conclude_cases before after with h | h <;> rw [h, State.react_worked]
  · exact State.followLamps_functionCommand _ f
  · rw [State.noteChange_functionCommand, State.followLamps_functionCommand]

/-- Every output of the later state follows, from the earlier one, the command that the later state gives it, and no
reaction did more than that (R129). -/
def State.Shows (s t : State) : Prop :=
  t.still = s.still ∧
    ∀ i : Fin 12, t.lamps.outputs[i] =
      s.lamps.outputs[i].follow s.clock s.cfg s.cfg.outputs[i] (t.outputCommand s.cfg.outputs[i])
        ((t.outputCommand s.cfg.outputs[i]).lit s.flashPhase s.cfg.flashPeriod)

theorem State.worked_shows (held : Bool) (s : State) {t : State} (hstill : t.still = s.still)
    (hlamps : t.lamps = (s.worked held).followLamps.lamps)
    (hfunction : ∀ f, t.functionCommand f = (s.worked held).functionCommand f) : s.Shows t := by
  refine ⟨hstill, fun i => ?_⟩
  have hworked := State.worked_still held s
  have hclock : (s.worked held).clock = s.clock := congrArg Still.clock hworked
  have hcfg : (s.worked held).cfg = s.cfg := congrArg Still.cfg hworked
  have hphase : (s.worked held).flashPhase = s.flashPhase := congrArg (fun x : Still => x.phase.getD 0) hworked
  rw [hlamps, State.followLamps_output, ← State.outputCommand_congr (hstill.trans hworked.symm) hfunction, hclock, hcfg,
    hphase, State.worked_outputs]

/-- The end of an event shows its state on the outputs. -/
theorem State.conclude_shows (before after : State) : after.Shows (State.conclude before after) :=
  State.worked_shows _ after (State.conclude_still before after) (State.conclude_lamps before after)
    (State.conclude_functionCommand before after)

theorem State.enterRun_shows (s : State) (encoder : Option Word16) (ambient : Byte) :
    (s.entered encoder ambient).Shows (s.enterRun encoder ambient) := by
  have hlamps (t : State) : t.formStatus.lamps = t.lamps := by
    unfold State.formStatus
    split <;> rfl
  refine State.worked_shows false _ (by simp [State.enterRun_eq]) ?_ fun f => ?_
  · rw [State.enterRun_eq, hlamps, State.react_worked]
  · rw [State.enterRun_eq, State.formStatus_functionCommand, State.react_worked, State.followLamps_functionCommand]

/-! ### The lit functions -/

theorem State.mem_outputPairs_iff (s : State) (x : OutputConfig × Output) :
    x ∈ s.outputPairs ↔ ∃ i : Fin 12, x = (s.cfg.outputs[i], s.lamps.outputs[i]) := by
  unfold State.outputPairs
  rw [List.mem_iff_getElem]
  constructor
  · rintro ⟨n, hn, rfl⟩
    have hn' : n < 12 := by simpa using hn
    exact ⟨⟨n, hn'⟩, by simp⟩
  · rintro ⟨i, rfl⟩
    exact ⟨i.val, by simp, by simp⟩

theorem State.functionLit_iff (s : State) (f : LampFunction) :
    s.functionLit f = true ↔ ∃ i : Fin 12, s.cfg.outputs[i].function = f ∧ s.lamps.outputs[i].lit = true := by
  simp only [State.functionLit, List.any_eq_true, State.mem_outputPairs_iff]
  constructor
  · rintro ⟨x, ⟨i, rfl⟩, h⟩
    exact ⟨i, by simpa using h⟩
  · rintro ⟨i, h⟩
    exact ⟨_, ⟨i, rfl⟩, by simpa using h⟩

/-- A function is shown lit exactly if one of its outputs is commanded so at the phase. -/
theorem State.Shows.lit_iff {s t : State} (h : s.Shows t) (f : LampFunction) :
    t.functionLit f = true ↔
      ∃ i : Fin 12, s.cfg.outputs[i].function = f ∧
        (t.outputCommand s.cfg.outputs[i]).lit s.flashPhase s.cfg.flashPeriod = true := by
  obtain ⟨hstill, houtputs⟩ := h
  have hcfg : t.cfg = s.cfg := congrArg Still.cfg hstill
  rw [State.functionLit_iff, hcfg]
  refine exists_congr fun i => and_congr_right fun _ => ?_
  rw [houtputs, (Output.follow_command_lit _ _ _ _ _ _).2]

/-! ### The road reds and the marine green -/

theorem State.outputCommand_of_working {s : State} (h : s.bothFailed = false) (o : OutputConfig) :
    s.outputCommand o = s.functionCommand o.function := by
  simp [State.outputCommand, h]

theorem StationConfig.failSafeCommand_marineGreen (c : StationConfig) {o : OutputConfig}
    (h : o.function = .marineGreen) : c.failSafeCommand o = .off := by
  unfold StationConfig.failSafeCommand
  rw [h]

/-- Off its fail-safe patterns no station shows both road red groups lit: they flash in opposite halves (R135). -/
theorem State.Shows.redsAlternate {s t : State} (h : s.Shows t) : t.redsAlternate := by
  rintro - hworking ⟨hred, hred'⟩
  obtain ⟨i, hi, hlit⟩ := (h.lit_iff _).mp hred
  obtain ⟨j, hj, hlit'⟩ := (h.lit_iff _).mp hred'
  rw [State.outputCommand_of_working hworking, hi] at hlit
  rw [State.outputCommand_of_working hworking, hj] at hlit'
  cases hflash : t.roadAspect == .redFlash with
  | true =>
    simp only [State.functionCommand, hflash, if_true, Command.lit, decide_eq_true_eq] at hlit hlit'
    omega
  | false => simp [State.functionCommand, hflash, Command.lit] at hlit

/-- A station without a hand panel has no hand request (R123). -/
def State.handGiven (s : State) : Prop := s.role.hasHandPanel = false → s.hand.state = .off

/-- A MARINE_GREEN output is shown lit only as R135 allows. -/
theorem State.Shows.greenGuarded {s t : State} (h : s.Shows t) (running : s.isRunning = true) (hand : t.handGiven) :
    t.greenGuarded := by
  have hrunning := (State.isRunning_of_still h.1).trans running
  refine ⟨fun hoff => ?_, fun _ hgreen => ?_⟩
  · exact hoff.elim hand fun hr => absurd (hrunning.symm.trans hr) (by decide)
  obtain ⟨i, hi, hlit⟩ := (h.lit_iff _).mp hgreen
  cases hfailed : t.bothFailed with
  | true => 
    rw [State.outputCommand, hfailed, if_pos rfl, StationConfig.failSafeCommand_marineGreen _ hi] at hlit
    cases hlit
  | false =>
    rw [State.outputCommand_of_working hfailed, hi] at hlit
    cases hboth : t.marineAspect == .green && t.permissive .hoistsTop with
    | false => simp [State.functionCommand, hboth, steadyIf, Command.lit] at hlit
    | true =>
      rw [Bool.and_eq_true, beq_iff_eq] at hboth
      obtain ⟨haspect, htop⟩ := hboth
      unfold State.marineAspect at haspect
      split at haspect
      next hcond =>
        simp only [Bool.and_eq_true, Bool.not_eq_true', beq_iff_eq] at hcond
        obtain ⟨⟨⟨hrole, -⟩, hhalted⟩, -⟩ := hcond
        have hstate := hand (by rw [hrole]; rfl)
        exact ⟨hrole, by simp [State.inHand, hstate], hhalted, rfl, htop⟩
      next => cases haspect

/-! ### The hand state of a station without a panel -/

theorem State.handGiven_of_hand {s t : State} (hcfg : t.cfg = s.cfg) (hhand : t.hand.state = s.hand.state)
    (hs : s.handGiven) : t.handGiven := by
  rw [State.handGiven, State.role, hcfg, hhand]
  exact hs

theorem State.handGiven_of_panel {s t : State} (hcfg : t.cfg = s.cfg) (h : s.role.hasHandPanel = true) : t.handGiven := by
  intro hnone
  rw [State.role, hcfg] at hnone
  exact absurd (h.symm.trans hnone) (by decide)

theorem State.handGiven_of_working {s t : State} (h : t.working = s.working) (hs : s.handGiven) : t.handGiven :=
  State.handGiven_of_hand (congrArg Working.cfg h) (congrArg (·.hand.state) h) hs

theorem State.cfg_of_still {s t : State} (h : t.still = s.still) : t.cfg = s.cfg := congrArg Still.cfg h

theorem State.addOrigin_handState (s : State) (n : Nat) (r : HaltReason) :
    (s.addOrigin n r).hand.state = s.hand.state := by
  unfold State.addOrigin State.stopMotion State.interruptStep
  split
  · rfl
  · dsimp only
    split <;> rfl

theorem State.raiseCause_handState (s : State) (c : LocalCause) : (s.raiseCause c).hand.state = s.hand.state := by
  rcases s.raiseCause_cases c with ⟨-, h⟩ | ⟨-, h⟩ <;> rw [h]
  rw [State.formHalt_hand, State.addOrigin_handState]

theorem State.raiseCause_handGiven {s : State} (c : LocalCause) (hs : s.handGiven) : (s.raiseCause c).handGiven :=
  State.handGiven_of_hand (State.cfg_of_still (s.raiseCause_still c)) (s.raiseCause_handState c) hs

theorem State.discardInterrupted_hand (s : State) : s.discardInterrupted.hand = s.hand := by
  unfold State.discardInterrupted
  split <;> rfl

theorem State.rebuild_hand (s : State) (encoder : Option Word16) : (s.rebuild encoder).hand = s.hand := by
  unfold State.rebuild
  dsimp only
  split <;> rfl

theorem State.leaveHand_handState (s : State) (encoder : Option Word16) : (s.leaveHand encoder).hand.state = .off := by
  rw [State.leaveHand, State.rebuild_hand]

theorem State.endHandMove_handState (s : State) : s.endHandMove.hand.state = s.hand.state := by
  unfold State.endHandMove
  split <;> rfl

theorem State.Works.handGiven {s t : State} (h : s.Works t) (hs : s.handGiven) : t.handGiven := by
  induction h with
  | refl => exact hs
  | congr _ same ih => exact State.handGiven_of_working same ih
  | raised _ c ih => exact State.raiseCause_handGiven c ih
  | @joined t _ n known r ih =>
    exact State.handGiven_of_hand (State.cfg_of_still (t.addOrigin_still n r)) (t.addOrigin_handState n r) ih
  | @resumed t _ ih =>
    refine State.handGiven_of_hand (State.cfg_of_still t.resume_still) ?_ ih
    rcases t.resume_cases.2 with h | ⟨-, h⟩ <;> rw [h]
    rw [State.discardInterrupted_hand]
  | ended _ ih => exact ih
  | completed _ st now ih => exact ih
  | @reversed t _ ih =>
    rcases t.stopTravel_cases with h | ⟨-, -, -, h⟩ | ⟨-, -, -, h⟩ <;> rw [h] <;> exact ih
  | @key t _ panel ih => exact State.handGiven_of_panel (State.cfg_of_still t.keyActive_still) panel
  | cancelled _ pending ih => exact fun _ => rfl
  | left _ inHand encoder ih => exact fun _ => State.leaveHand_handState _ encoder
  | @moved t _ m inHand hmove taken ih =>
    refine State.handGiven_of_hand (State.cfg_of_still (t.beginHandMove_still m)) ?_ ih
    unfold State.beginHandMove
    dsimp only
    split <;> rfl
  | @handEnded t _ ih =>
    exact State.handGiven_of_hand (State.cfg_of_still t.endHandMove_still) t.endHandMove_handState ih
  | recovered _ recovering ih => exact ih
  | rested _ ih => exact ih
  | tripped _ ih => exact ih
  | referenced _ w up work kind ih => exact ih

theorem State.sequenced_handGiven {s : State} (held : Bool) (hs : s.handGiven) : (s.sequenced held).handGiven := by
  refine State.sequenced_keeps (P := State.handGiven) (fun t ht => ?_) (fun t b r ht hm => ?_)
    (State.handGiven_of_hand (State.cfg_of_still s.prepared_still) (by rw [s.prepared_hand]) hs)
  · have hgranted : t.grantHand.handGiven := by
      unfold State.grantHand
      split
      next h =>
        simp only [Bool.and_eq_true, beq_iff_eq] at h
        intro hnone
        rw [State.role, State.cfg_of_still t.enterHand_still] at hnone
        exact absurd ((ht hnone).symm.trans h.1) (by decide)
      next => exact ht
    unfold State.settle
    dsimp only
    split <;> exact hgranted
  · exact State.nextMove_keeps (P := State.handGiven)
      (fun u st b hu => State.handGiven_of_hand (State.cfg_of_still (u.beginStep_still st b)) (by rw [u.beginStep_hand]) hu)
      (fun _ hu => hu) (fun _ _ hu => hu) (fun _ hu => hu) (fun _ c _ hu => State.raiseCause_handGiven c hu) ht hm

theorem State.react_handGiven {s : State} (held : Bool) (hs : s.handGiven) : (s.react held).handGiven := by
  have hworked : (s.worked held).handGiven := by
    refine State.handGiven_of_hand (State.cfg_of_still (State.followHandMove_still _)) ?_ (State.sequenced_handGiven held hs)
    unfold State.worked State.followHandMove
    split
    · exact State.endHandMove_handState _
    · rfl
  rw [State.react_worked]
  exact hworked

theorem State.conclude_handGiven (before : State) {after : State} (hs : after.handGiven) :
    (State.conclude before after).handGiven :=
  State.handGiven_of_working (State.conclude_working before after) (State.react_handGiven _ hs)

/-! ### An output without diagnostics -/

/-- An output that is never judged (R143). -/
def Output.unjudged (o : Output) : Prop :=
  o.proof = (if o.command = .off then .off else .unproven) ∧ o.check = .stopped ∧ o.retry = .stopped ∧
    o.retryDue = false ∧ o.retrying = false

theorem Output.unjudged.follow {o : Output} (h : o.unjudged) {cfg : OutputConfig} (undiagnosed : cfg.diagnostics = false)
    (now : Time) (c : StationConfig) (cmd : Command) (lit : Bool) : (o.follow now c cfg cmd lit).unjudged := by
  obtain ⟨hproof, hcheck, hretry, hdue, hretrying⟩ := h
  have hnotShort : o.proof ≠ .short := by
    rw [hproof]
    split <;> decide
  have hcommand : (o.followCommand cmd).unjudged := by
    unfold Output.followCommand
    by_cases hoff : cmd = .off
    · simp [hoff, hnotShort, Output.unjudged]
    · by_cases hwas : o.command = .off <;> simp_all [Output.unjudged]
  have hshown : (o.shown cmd lit).unjudged := hcommand
  have hshort : (o.shown cmd lit).proof ≠ .short := by
    rw [hshown.1]
    split <;> decide
  have hretried : (o.shown cmd lit).followRetry now c (lit && !o.lit) = o.shown cmd lit := by
    simp [Output.followRetry, hshort]
  rw [Output.follow_of_no_diagnostics undiagnosed, Output.retried, hretried]
  unfold Output.followDriven
  split <;> exact hshown

theorem State.undiagnosedFit_iff (s : State) : s.undiagnosedFit ↔
    (s.isRunning = true → ∀ i : Fin 12, s.cfg.outputs[i].diagnostics = false → s.lamps.outputs[i].unjudged) :=
  Iff.rfl

theorem State.Shows.undiagnosedFit {s t : State} (h : s.Shows t) (hs : s.undiagnosedFit) : t.undiagnosedFit := by
  obtain ⟨hstill, houtputs⟩ := h
  rw [State.undiagnosedFit_iff, State.isRunning_of_still hstill, State.cfg_of_still hstill]
  intro running i undiagnosed
  rw [houtputs]
  have hunjudged : s.lamps.outputs[i].unjudged := hs running i undiagnosed
  exact hunjudged.follow undiagnosed _ _ _ _

/-- An output whose timer is due is under diagnostics, so that changing it touches no other kind. -/
theorem State.setOutput_undiagnosedFit {s : State} {i : Fin 12} (o : Output)
    (due : s.lamps.outputs[i].check ≠ .stopped ∨ s.lamps.outputs[i].retry ≠ .stopped) (hs : s.undiagnosedFit) :
    (s.setOutput i o).undiagnosedFit := by
  rw [State.undiagnosedFit_iff] at hs ⊢
  intro running j undiagnosed
  have hj : s.lamps.outputs[j].unjudged := hs running j undiagnosed
  have hne : i ≠ j := by
    rintro rfl
    exact due.elim (fun h => h hj.2.1) (fun h => h hj.2.2.1)
  have hval : i.val ≠ j.val := fun h => hne (Fin.ext h)
  simpa [State.setOutput_outputs, Vector.getElem_set, hval] using hj

theorem Timer.ne_stopped_of_due {t : Timer} {now : Time} (h : t.due now = true) : t ≠ .stopped := by
  rintro rfl
  cases h

theorem State.undiagnosedFit_of_outputs {s t : State} (hstage : t.stage = s.stage) (hcfg : t.cfg = s.cfg)
    (houtputs : t.lamps.outputs = s.lamps.outputs) (hs : s.undiagnosedFit) : t.undiagnosedFit := by
  rw [State.undiagnosedFit_iff] at hs ⊢
  rw [State.isRunning, hstage, hcfg, houtputs]
  exact hs

/-! ### What leaves the outputs alone -/

/-- The output records of a state. -/
abbrev State.outputs (s : State) : Vector Output 12 := s.lamps.outputs

theorem State.outputs_of_unmoved {s t : State} (h : t.unmoved = s.unmoved) : t.outputs = s.outputs :=
  congrArg (·.lamps.outputs) h

theorem State.setLink_outputs (s : State) (l : Link) (c : LinkController) : (s.setLink l c).outputs = s.outputs := by
  cases l <;> rfl

theorem State.setHealth_outputs (s : State) (l : Link) (n : Nat) : (s.setHealth l n).outputs = s.outputs := by
  have hjudged := s.setLink_outputs l ((s.link l).judge n)
  rcases s.setHealth_cases l n with ⟨-, h⟩ | ⟨-, -, h⟩ | ⟨-, -, h⟩ <;> rw [h]
  · exact (State.outputs_of_unmoved (State.raiseCause_unmoved _ _)).trans hjudged
  · exact hjudged
  · exact hjudged

theorem State.countValid_outputs (s : State) (l : Link) : (s.countValid l).outputs = s.outputs :=
  (State.setHealth_outputs _ l _).trans ((State.setLink_outputs _ l _).trans (s.setLink_outputs l _))

theorem State.adopt_outputs (s : State) (d : Demand) : (s.adopt d).outputs = s.outputs :=
  congrArg Lamps.outputs (s.adopt_lamps d)

theorem State.resume_outputs (s : State) : s.resume.outputs = s.outputs := by
  rcases s.resume_cases.2 with h | ⟨-, h⟩ <;> rw [h]
  exact State.outputs_of_unmoved (State.discardInterrupted_unmoved _)

theorem State.handOn_outputs (s : State) (sender : Nat) (body : TelegramBody) :
    (s.handOn sender body).outputs = s.outputs := by
  cases body with
  | halt mask reason =>
    show (s.takeHalt sender mask reason).outputs = s.outputs
    unfold State.takeHalt
    split
    · exact State.outputs_of_unmoved (s.addOrigin_unmoved _ _)
    · rfl
  | resume mask =>
    show (s.takeResume sender mask).outputs = s.outputs
    unfold State.takeResume
    split
    · exact s.resume_outputs
    · rfl
  | demand kind number =>
    show (s.takeDemand sender kind number).outputs = s.outputs
    unfold State.takeDemand
    split
    next d _ =>
      rcases s.receiveDemand_cases d with ⟨-, h⟩ | ⟨-, h⟩ <;> rw [h]
      exact s.adopt_outputs d
    · rfl
  | query target =>
    show (s.takeQuery sender target.toNat).outputs = s.outputs
    unfold State.takeQuery
    split <;> rfl
  | status body => rfl
  | record bytes => rfl

theorem State.followReference_outputs (s : State) : s.followReference.outputs = s.outputs := by
  unfold State.followReference
  dsimp only
  split <;> rfl

theorem State.recordStatus_outputs (s : State) (i : Fin 16) (p : PeerEntry) (fits : Bool) (stamp captured : Nat) :
    (s.recordStatus i p fits stamp captured).outputs = s.outputs := by
  unfold State.recordStatus
  split <;> exact (s.reported i p fits).followReference_outputs

theorem State.Delivered.outputs {s d : State} {l : Link} {captured : Nat} {t : Telegram}
    (h : s.Delivered l captured t d) : d.outputs = s.outputs := by
  cases h with
  | dropped => rfl
  | own => exact State.outputs_of_unmoved (s.raiseCause_unmoved _)
  | handed => exact s.handOn_outputs _ _
  | status known other i body =>
    rw [State.acceptStatus_eq]
    split
    · exact (congrArg Lamps.outputs (State.takeEcho_lamps _ _)).trans (s.recordStatus_outputs _ _ _ _ _)
    · exact s.recordStatus_outputs _ _ _ _ _
  | taken => exact State.handOn_outputs _ _ _

theorem State.endHandMove_outputs (s : State) : s.endHandMove.outputs = s.outputs :=
  State.outputs_of_unmoved s.endHandMove_unmoved

theorem State.leaveHand_outputs (s : State) (encoder : Option Word16) : (s.leaveHand encoder).outputs = s.outputs := by
  have hrebuild (t : State) : (t.rebuild encoder).outputs = t.outputs := by
    unfold State.rebuild
    dsimp only
    split <;> rfl
  exact (hrebuild _).trans s.endHandMove_outputs

theorem State.keyActive_outputs (s : State) : s.keyActive.outputs = s.outputs := by
  unfold State.keyActive
  split
  · split
    · exact State.outputs_of_unmoved s.enterHand_unmoved
    · rfl
  · rfl

theorem State.keyInactive_outputs (s : State) (encoder : Option Word16) :
    (s.keyInactive encoder).outputs = s.outputs := by
  cases hstate : s.hand.state with
  | off => rw [State.keyInactive_of_off hstate]
  | pending => rw [State.keyInactive_of_pending hstate]
  | hand =>
    rw [State.keyInactive_of_hand hstate]
    split
    · exact (State.outputs_of_unmoved (State.raiseCause_unmoved _ _)).trans (s.leaveHand_outputs encoder)
    · exact s.leaveHand_outputs encoder

theorem State.buttonChanged_outputs (s : State) (m : HandMove) (k : DemandKind) (active : Bool) :
    (s.buttonChanged m k active).outputs = s.outputs := by
  unfold State.buttonChanged
  split
  · split
    · rcases s.pressDemand_cases k with ⟨-, h⟩ | ⟨-, -, h⟩ | ⟨-, -, h⟩ <;> rw [h]
      exact State.adopt_outputs _ (s.nextDemand k)
    · rfl
  · rfl
  · unfold State.handButtonChanged State.beginHandMove
    split
    · split
      · exact s.endHandMove_outputs
      · rfl
    · split
      · dsimp only
        split <;> rfl
      · rfl

theorem State.formHalt_outputs (s : State) (r : HaltReason) : (s.formHalt r).outputs = s.outputs :=
  State.outputs_of_unmoved (s.formHalt_unmoved r)

theorem State.inputChanged_outputs (s : State) (i : Fin 16) (active : Bool) (encoder : Option Word16) :
    (s.inputChanged i active encoder).outputs = s.outputs := by
  have detectors (k : Nat) : (s.detectorChanged k active).outputs = s.outputs := by
    unfold State.detectorChanged
    split <;> rfl
  have raises (c : LocalCause) : (s.raiseCause c).outputs = s.outputs :=
    State.outputs_of_unmoved (s.raiseCause_unmoved c)
  have hhalt : s.pressHalt.outputs = s.outputs := by
    unfold State.pressHalt
    split
    · exact s.formHalt_outputs _
    · exact raises _
  have hresume : s.pressResume.outputs = s.outputs := by
    unfold State.pressResume State.formResume
    split <;> exact s.resume_outputs
  unfold State.inputChanged
  split
  · split
    · exact raises _
    · rfl
  · split
    · split
      · exact s.keyActive_outputs
      · exact s.keyInactive_outputs encoder
    · rfl
  · exact s.buttonChanged_outputs _ _ _
  · exact s.buttonChanged_outputs _ _ _
  · split
    · exact hhalt
    · rfl
  · split
    · exact hresume
    · rfl
  · exact detectors 0
  · exact detectors 1
  · exact detectors 2
  · exact detectors 3
  · rfl

theorem State.fullComputation_outputs (s : State) (w : ControlWork) (up : Bool) :
    (s.fullComputation w up).outputs = s.outputs := by
  have raises (t : State) (c : LocalCause) : (t.raiseCause c).outputs = t.outputs :=
    State.outputs_of_unmoved (t.raiseCause_unmoved c)
  by_cases htrip : s.cfg.skewTrip < skewOf s.level.height s.peerHeights
  · rw [State.fullComputation_of_trip w up htrip]
    exact (raises _ _).trans rfl
  · rw [State.fullComputation_of_no_trip w up (not_lt.mp htrip)]
    have hreference : (s.throughReference w up).outputs = s.outputs := rfl
    have hjudged : (s.throughReference w up).judgeSeating.outputs = (s.throughReference w up).outputs := rfl
    rcases (s.throughReference w up).endOfTravel_cases with ⟨-, h⟩ | ⟨-, h⟩ | h <;> rw [h]
    · rw [raises, hjudged, hreference]
    · exact hjudged.trans hreference
    · exact hjudged.trans hreference

theorem State.controlExpiry_outputs (s : State) (encoder : Option Word16) :
    (s.controlExpiry encoder).outputs = s.outputs := by
  cases encoder with
  | none => exact (State.outputs_of_unmoved (s.noComputation.raiseCause_unmoved _)).trans rfl
  | some h =>
    have hdone (t u : State) (hdone : t.ControlDone u) : u.outputs = t.outputs := by
      cases hdone with
      | none => rfl
      | skewOnly => rfl
      | full w up => exact t.fullComputation_outputs w up
    exact (hdone _ _ (s.controlExpiry_some h)).trans rfl

/-- An event leaves every output record alone, or is a check or a retry of one. -/
theorem State.Event.outputs {s t : State} (h : s.Event t) :
    t.outputs = s.outputs ∨
      (∃ i o, t = s.setOutput i o ∧ (s.lamps.outputs[i].check ≠ .stopped ∨ s.lamps.outputs[i].retry ≠ .stopped)) := by
  cases h with
  | input i encoder => exact .inl ((State.inputChanged_outputs _ i _ encoder).trans rfl)
  | troubled l => exact .inl ((State.setHealth_outputs _ l _).trans (s.setLink_outputs l _))
  | damaged l => exact .inl ((State.setHealth_outputs _ l _).trans (s.setLink_outputs l _))
  | silent l => exact .inl ((State.setHealth_outputs _ l _).trans (s.setLink_outputs l _))
  | counted l check => exact .inl (s.countValid_outputs l)
  | delivered l tel => exact .inl ((State.deliver_delivered _ _ _ _).outputs.trans (s.countValid_outputs l))
  | sent l a => exact .inl ((State.setHealth_outputs _ l _).trans (s.setLink_outputs l _))
  | deadline i => exact .inl rfl
  | stalled => exact .inl rfl
  | supervised => exact .inl (State.outputs_of_unmoved (s.endStep.raiseCause_unmoved _))
  | prewarned => exact .inl rfl
  | cleared => exact .inl rfl
  | ambered => exact .inl rfl
  | recovered => exact .inl rfl
  | control encoder => exact .inl ((State.controlExpiry_outputs _ encoder).trans rfl)
  | checked i current due => exact .inr ⟨i, _, rfl, .inl (Timer.ne_stopped_of_due due)⟩
  | retried i due => exact .inr ⟨i, _, rfl, .inr (Timer.ne_stopped_of_due due)⟩
  | boundary => exact .inl rfl

theorem State.Event.undiagnosedFit {s t : State} (h : s.Event t) (hs : s.undiagnosedFit) : t.undiagnosedFit := by
  rcases h.outputs with houtputs | ⟨i, o, rfl, hdue⟩
  · exact State.undiagnosedFit_of_outputs (congrArg Fixed.stage h.fixed) (congrArg Fixed.cfg h.fixed) houtputs hs
  · exact State.setOutput_undiagnosedFit o hdue hs

/-! ### The flash phase -/

theorem flashPeriodOf_fits (x : Nat) :
    600 ≤ flashPeriodOf x ∧ flashPeriodOf x ≤ 1500 ∧ flashPeriodOf x % 2 = 0 := by
  obtain ⟨hlow, hhigh⟩ := clampNat_bounds (lo := 600) (hi := 1500) x (by decide)
  unfold flashPeriodOf
  omega

theorem State.flashPeriod_of_load {image : List Byte} {c : StationConfig} (h : loadImage image = some c) :
    600 ≤ c.flashPeriod ∧ c.flashPeriod ≤ 1500 ∧ c.flashPeriod % 2 = 0 := by
  unfold loadImage at h
  split at h
  · obtain ⟨role, -, rfl⟩ := Option.map_eq_some_iff.mp h
    exact flashPeriodOf_fits _
  · cases h

/-- The phase law reads the stage, the loader, the configuration and the phase alone. -/
theorem State.phaseFits_of_fixed {s t : State} (hfixed : t.still.fixed = s.still.fixed)
    (hphase : t.lamps.phase = s.lamps.phase ∨ s.isRunning = true ∧ ∃ p, t.lamps.phase = some p ∧ p < s.cfg.flashPeriod)
    (hs : s.phaseFits) : t.phaseFits := by
  have hstage : t.stage = s.stage := congrArg Fixed.stage hfixed
  have hcfg : t.cfg = s.cfg := congrArg Fixed.cfg hfixed
  have hloader : t.loader = s.loader := congrArg Fixed.loader hfixed
  have hrunning : t.isRunning = s.isRunning := by rw [State.isRunning, hstage, State.isRunning]
  have hconfigured : t.configured = s.configured := by
    rw [State.configured, hrunning, hloader, State.configured]
  rw [State.phaseFits, hconfigured, hcfg, hrunning]
  rcases hphase with hphase | ⟨running, hphase⟩
  · rw [hphase]
    exact hs
  · exact ⟨hs.1, fun h => absurd (running.symm.trans h) (by decide), fun _ => hphase⟩

theorem emod_toNat_lt (x : Int) {n : Nat} (h : 0 < n) : (Int.emod x n).toNat < n := by
  have hlt : Int.emod x n < n := Int.emod_lt_of_pos x (by exact_mod_cast h)
  omega

/-- A correction leaves the phase within its period (R132). -/
theorem State.correctPhase_phase {s : State} (stamp captured : Nat) (hperiod : 0 < s.cfg.flashPeriod) :
    ∃ p, (s.correctPhase stamp captured).lamps.phase = some p ∧ p < s.cfg.flashPeriod :=
  ⟨_, rfl, emod_toNat_lt _ hperiod⟩

end Sys2Proof.Machine

/-!
PROOFS. The flash phase at an event, and the lamp laws under every command (O58).
-/

namespace Sys2Proof.Machine

/-! ### The flash phase at an event -/

/-- An operation that leaves the phase, or corrects it into its period. -/
def State.phaseHeld (s t : State) : Prop :=
  t.lamps.phase = s.lamps.phase ∨ ∃ p, t.lamps.phase = some p ∧ p < s.cfg.flashPeriod

theorem State.followReference_phase (s : State) : s.followReference.lamps.phase = s.lamps.phase :=
  congrArg Still.phase s.followReference_still

theorem State.recordStatus_phaseHeld {s : State} (hperiod : 0 < s.cfg.flashPeriod) (i : Fin 16) (p : PeerEntry)
    (fits : Bool) (stamp captured : Nat) : s.phaseHeld (s.recordStatus i p fits stamp captured) := by
  have hcfg : (s.reported i p fits).followReference.cfg = s.cfg :=
    (State.cfg_of_still (s.reported i p fits).followReference_still).trans rfl
  unfold State.recordStatus
  split
  · exact .inr (hcfg ▸ State.correctPhase_phase stamp captured (hcfg ▸ hperiod))
  · exact .inl (s.reported i p fits).followReference_phase

theorem State.Delivered.phaseHeld {s d : State} {l : Link} {captured : Nat} {t : Telegram}
    (h : s.Delivered l captured t d) (hperiod : 0 < s.cfg.flashPeriod) : s.phaseHeld d := by
  cases h with
  | dropped => exact .inl rfl
  | own => exact .inl (congrArg Still.phase (s.raiseCause_still _))
  | handed => exact .inl (congrArg Still.phase (s.handOn_still _ _))
  | status known other i body =>
    have hrecord := State.recordStatus_phaseHeld hperiod i
      (s.peers[i].takeStatus s.cfg.peerDeadline { now := s.clock, captured := captured, link := l } t.seq body)
      ((s.peers[i].takeStatus s.cfg.peerDeadline { now := s.clock, captured := captured, link := l } t.seq body).roleFits
        body) body.stamp.toNat captured
    rw [State.acceptStatus_eq]
    split
    · rw [State.phaseHeld, State.takeEcho_lamps]
      exact hrecord
    · exact hrecord
  | taken known other i => exact .inl (congrArg Still.phase (State.handOn_still _ _ _))

theorem State.setHealth_phase (s : State) (l : Link) (n : Nat) : (s.setHealth l n).lamps.phase = s.lamps.phase := by
  have h := congrArg Still.phase (s.setHealth_still l n)
  cases l <;> exact h

theorem State.countValid_phase (s : State) (l : Link) : (s.countValid l).lamps.phase = s.lamps.phase := by
  have h := congrArg Still.phase (s.countValid_still l)
  cases l <;> exact h

theorem State.Event.phaseHeld {s t : State} (h : s.Event t) (hperiod : 0 < s.cfg.flashPeriod) : s.phaseHeld t := by
  cases h with
  | input i encoder => exact .inl (congrArg Still.phase (State.inputChanged_still _ i _ encoder))
  | troubled l => exact .inl ((State.setHealth_phase _ l _).trans (by simp [State.endReception]))
  | damaged l => exact .inl ((State.setHealth_phase _ l _).trans (by simp))
  | silent l => exact .inl ((State.setHealth_phase _ l _).trans (by simp [State.restartSilence]))
  | counted l check => exact .inl (s.countValid_phase l)
  | delivered l tel =>
    have hcfg : (s.counted l (Machine.crc (encodeTelegram tel))).cfg = s.cfg := s.countValid_cfg l
    have hdelivered := (State.deliver_delivered (s.counted l (Machine.crc (encodeTelegram tel))) l (s.capturedPhase l)
      tel).phaseHeld (hcfg ▸ hperiod)
    rw [State.phaseHeld, hcfg] at hdelivered
    exact hdelivered.imp_left (·.trans (s.countValid_phase l))
  | sent l a => exact .inl ((State.setHealth_phase _ l _).trans (by simp))
  | deadline i => exact .inl rfl
  | stalled => exact .inl rfl
  | supervised => exact .inl (congrArg Still.phase (s.endStep.raiseCause_still _))
  | prewarned => exact .inl rfl
  | cleared => exact .inl rfl
  | ambered => exact .inl rfl
  | recovered => exact .inl rfl
  | control encoder => exact .inl (congrArg Still.phase (State.controlExpiry_still _ encoder))
  | checked i current => exact .inl rfl
  | retried i => exact .inl rfl
  | boundary => exact .inl rfl

theorem State.flashPeriod_pos {s : State} (hs : s.phaseFits) (running : s.isRunning = true) : 0 < s.cfg.flashPeriod := by
  have hlow := (hs.1 (by simp [State.configured, running])).1
  omega

theorem State.Event.phaseFits {s t : State} (h : s.Event t) (running : s.isRunning = true) (hs : s.phaseFits) :
    t.phaseFits :=
  State.phaseFits_of_fixed h.fixed ((h.phaseHeld (State.flashPeriod_pos hs running)).imp_right fun hp => ⟨running, hp⟩) hs

theorem State.phaseFits_of_still {s t : State} (h : t.still = s.still) (hs : s.phaseFits) : t.phaseFits :=
  State.phaseFits_of_fixed (congrArg Still.fixed h) (.inl (congrArg Still.phase h)) hs

/-- The phase taken at the entry into RUN lies within its period (R130). -/
theorem State.enterRun_phaseFits {s : State} (encoder : Option Word16) (ambient : Byte) (due : s.loader.start.due s.clock = true)
    (hs : s.phaseFits) : (s.enterRun encoder ambient).phaseFits := by
  have hperiod := hs.1 (by simp [State.configured, Timer.isRunning_of_due due])
  refine State.phaseFits_of_still (s.enterRun_still encoder ambient) ?_
  have hstill := s.entering_still encoder ambient
  have hcfg : (s.entering encoder ambient).cfg = s.cfg := congrArg Still.cfg hstill
  have hphase : (s.entering encoder ambient).lamps.phase = some (s.clock.toNat % s.cfg.flashPeriod) :=
    congrArg Still.phase hstill
  have hrunning : (s.entering encoder ambient).isRunning = true := by
    rw [State.isRunning_eq_true_iff]
    exact congrArg Still.stage hstill
  rw [State.phaseFits, hcfg, hphase]
  exact ⟨fun _ => hperiod, fun h => absurd (hrunning.symm.trans h) (by decide),
    fun _ => ⟨_, rfl, Nat.mod_lt _ (by omega)⟩⟩

theorem State.tick_phaseFits {s : State} (hs : s.phaseFits) : s.tick.phaseFits := by
  unfold State.tick
  split
  · exact hs
  · obtain ⟨hperiod, hoff, hon⟩ := hs
    refine ⟨hperiod, fun h => ?_, fun h => ?_⟩
    · simp [Lamps.tick, hoff h]
    · obtain ⟨p, hp, -⟩ := hon h
      have hpos := State.flashPeriod_pos ⟨hperiod, hoff, hon⟩ h
      exact ⟨(p + 1) % s.cfg.flashPeriod, by simp [Lamps.tick, hp], Nat.mod_lt _ hpos⟩

/-! ### The entry into RUN -/

theorem State.entering_outputs_unjudged (s : State) (encoder : Option Word16) (ambient : Byte) (i : Fin 12) :
    (s.entering encoder ambient).lamps.outputs[i].unjudged := by
  have hlamps : (s.entering encoder ambient).outputs = (s.freeLamps ambient).outputs := by
    have hrole (t : State) : (t.startRole encoder).outputs = t.outputs := by
      unfold State.startRole State.rebuild
      dsimp only
      split <;> split <;> rfl
    exact (hrole _).trans rfl
  rw [State.outputs] at hlamps
  rw [hlamps]
  simp [State.outputs, State.freeLamps, State.sampleAmbient, Output.unjudged]

theorem State.entered_outputs (s : State) (encoder : Option Word16) (ambient : Byte) :
    (s.entered encoder ambient).outputs = (s.entering encoder ambient).outputs := by
  have hraised := State.outputs_of_unmoved
    ((s.entering encoder ambient).raiseCauses_unmoved ((s.entering encoder ambient).startCauses encoder))
  unfold State.entered State.startKey
  split
  · exact (State.keyActive_outputs _).trans hraised
  · exact hraised

theorem State.entered_undiagnosedFit (s : State) (encoder : Option Word16) (ambient : Byte) :
    (s.entered encoder ambient).undiagnosedFit := by
  rw [State.undiagnosedFit_iff]
  intro _ i _
  rw [show (s.entered encoder ambient).lamps.outputs = _ from s.entered_outputs encoder ambient]
  exact s.entering_outputs_unjudged encoder ambient i

theorem State.entering_hand (s : State) (encoder : Option Word16) (ambient : Byte) :
    (s.entering encoder ambient).hand = s.hand := by
  have hrole (q : State) : (q.startRole encoder).hand = q.hand := by
    have h := q.rebuild_hand encoder
    unfold State.startRole
    dsimp only
    split <;> exact h
  exact hrole _

theorem State.enterRun_handGiven {s : State} (encoder : Option Word16) (ambient : Byte) (off : s.hand.state = .off) :
    (s.enterRun encoder ambient).handGiven := by
  have hraised : ((s.entering encoder ambient).raiseCauses
      ((s.entering encoder ambient).startCauses encoder)).handGiven :=
    State.raiseCauses_keeps (P := State.handGiven) _ (fun _ h => h) (fun _ c _ h => State.raiseCause_handGiven c h) _
      (fun _ => by rw [State.entering_hand, off])
  have hkeyed : (s.entered encoder ambient).handGiven := by
    unfold State.entered State.startKey
    split
    next h =>
      rw [Bool.and_eq_true] at h
      exact State.handGiven_of_panel (State.cfg_of_still (State.keyActive_still _)) h.1
    next => exact hraised
  rw [State.enterRun_eq]
  exact State.handGiven_of_working (State.formStatus_working _) (State.react_handGiven false hkeyed)

/-! ### Every command -/

theorem State.functionLit_of_lit {s t : State} (hcfg : t.cfg = s.cfg)
    (hlit : ∀ i : Fin 12, t.lamps.outputs[i].lit = s.lamps.outputs[i].lit) (f : LampFunction) :
    t.functionLit f = s.functionLit f := by
  rw [Bool.eq_iff_iff, State.functionLit_iff, State.functionLit_iff, hcfg]
  exact exists_congr fun i => by rw [hlit i]

theorem State.permissive_hoistsTop_congr {s t : State} (hrunning : t.isRunning = s.isRunning) (hpeers : t.peers = s.peers) :
    t.permissive .hoistsTop = s.permissive .hoistsTop := by
  simp only [State.permissive, hrunning, State.formed, State.flagged, hpeers]

/-- A command that forms no output anew, and changes nothing that R135 and R143 speak of. -/
structure State.Unlit (s t : State) : Prop where
  working : t.working = s.working
  peers : t.peers = s.peers
  bothFailed : t.bothFailed = s.bothFailed
  lit : ∀ i : Fin 12, t.lamps.outputs[i].lit = s.lamps.outputs[i].lit
  unjudged : ∀ i : Fin 12, s.lamps.outputs[i].unjudged → t.lamps.outputs[i].unjudged

theorem State.Unlit.of_outputs {s t : State} (working : t.working = s.working) (peers : t.peers = s.peers)
    (bothFailed : t.bothFailed = s.bothFailed) (outputs : t.outputs = s.outputs) : s.Unlit t :=
  ⟨working, peers, bothFailed, fun i => by rw [show t.lamps.outputs = _ from outputs],
    fun i h => by rwa [show t.lamps.outputs = _ from outputs]⟩

theorem State.isRunning_of_working {s t : State} (h : t.working = s.working) : t.isRunning = s.isRunning :=
  congrArg (· == Stage.running) (congrArg Working.stage h)

theorem State.Unlit.redsAlternate {s t : State} (h : s.Unlit t) (hs : s.redsAlternate) : t.redsAlternate := by
  have hcfg : t.cfg = s.cfg := congrArg Working.cfg h.working
  rw [State.redsAlternate, State.isRunning_of_working h.working, h.bothFailed, State.functionLit_of_lit hcfg h.lit,
    State.functionLit_of_lit hcfg h.lit]
  exact hs

theorem State.Unlit.greenGuarded {s t : State} (h : s.Unlit t) (hs : s.greenGuarded) : t.greenGuarded := by
  have hcfg : t.cfg = s.cfg := congrArg Working.cfg h.working
  have hhand : t.hand = s.hand := congrArg Working.hand h.working
  have hhalted : t.halted = s.halted := congrArg (· != 0) (congrArg Working.origins h.working)
  have hrunning := State.isRunning_of_working h.working
  rw [State.greenGuarded, State.functionLit_of_lit hcfg h.lit, hrunning, h.bothFailed, hhalted,
    State.permissive_hoistsTop_congr hrunning h.peers, State.inHand, hhand, State.role, hcfg]
  exact hs

theorem State.Unlit.undiagnosedFit {s t : State} (h : s.Unlit t) (hs : s.undiagnosedFit) : t.undiagnosedFit := by
  have hcfg : t.cfg = s.cfg := congrArg Working.cfg h.working
  rw [State.undiagnosedFit_iff, State.isRunning_of_working h.working, hcfg]
  exact fun running i undiagnosed => h.unjudged i (hs running i undiagnosed)

theorem State.setLink_unlit {s : State} {l : Link} {c : LinkController} (hc : c.failed = (s.link l).failed) :
    s.Unlit (s.setLink l c) := by
  refine .of_outputs (s.setLink_working l c) (s.setLink_peers l c) ?_ (s.setLink_outputs l c)
  cases l <;> simp only [State.bothFailed, State.setLink] <;> rw [hc] <;> rfl

theorem State.sampled_unlit (s : State) (a : Byte) :
    s.Unlit (({ s with lamps := { s.lamps with ambientTimer := s.lamps.ambientTimer.nextBeat } } : State).sampleAmbient a) :=
  ⟨rfl, rfl, rfl, fun i => by simp [State.sampleAmbient], fun i h => by
    simpa [State.sampleAmbient, Output.unjudged] using h⟩

theorem State.formStatus_unlit (s : State) : s.Unlit s.formStatus := by
  refine .of_outputs s.formStatus_working (congrArg Still.peers s.formStatus_still)
    (State.bothFailed_of_still s.formStatus_still) ?_
  unfold State.formStatus
  split <;> rfl

theorem State.tick_unlit (s : State) : s.Unlit s.tick := by
  have hticks (o : Output) (c : StationConfig) : (o.tick c).lit = o.lit ∧ (o.unjudged → (o.tick c).unjudged) := by
    rcases Output.tick_cases c o with ⟨-, h⟩ | ⟨-, h⟩ <;> rw [h]
    · exact ⟨rfl, id⟩
    · exact ⟨rfl, id⟩
  refine ⟨s.tick_working, s.tick_peers, ?_, fun i => ?_, fun i => ?_⟩
  · unfold State.tick
    split <;> rfl
  · unfold State.tick
    split
    · rfl
    · simpa [Lamps.tick] using (hticks _ _).1
  · unfold State.tick
    split
    · exact id
    · simpa [Lamps.tick] using (hticks _ _).2

/-- What an outcome is to the lamp laws: that of a reset or of the loader, of the entry into RUN, of an event, or one
that forms no output anew. -/
inductive State.LampOutcome (s : State) : State → Prop
  | idle {t : State} (off : t.isRunning = false) (hand : s.greenGuarded → t.hand.state = .off) : s.LampOutcome t
  | unlit {t : State} (h : s.Unlit t) : s.LampOutcome t
  | entered (encoder : Option Word16) (ambient : Byte) (off : s.isRunning = false) :
      s.LampOutcome (s.enterRun encoder ambient)
  | event (check : BitVec 16) (after : State) (running : s.isRunning = true)
      (h : ({ s with crc := check } : State).Event after) : s.LampOutcome (State.conclude { s with crc := check } after)

theorem State.Outcome.lamp {s t : State} {cmd : Instr} (h : s.Outcome cmd t) : s.LampOutcome t := by
  have off (hidle : s.isRunning = false) (hs : s.greenGuarded) : s.hand.state = .off := hs.1 (.inr hidle)
  cases h with
  | same => exact .unlit (.of_outputs rfl rfl rfl rfl)
  | started strap1 strap2 => exact .idle rfl fun _ => rfl
  | reset => exact .idle rfl fun _ => rfl
  | refused check reading => exact .idle rfl (off (State.reading_notRunning reading))
  | loaded check reading image c accepted =>
    have hoff := State.reading_notRunning reading
    exact .idle hoff (off hoff)
  | entered encoder ambient starting due => exact .entered encoder ambient (by simp [State.isRunning, starting])
  | line i x => exact .unlit (.of_outputs rfl rfl rfl rfl)
  | heard l => exact .unlit (State.setLink_unlit rfl)
  | begun l k tel =>
    exact .unlit (.of_outputs (s.setLink_working l _) (s.setLink_peers l _)
      (State.setLink_unlit (s := s) (l := l) (c := { s.link l with
        attempt := some { telegram := Telegram.stamped tel s.flashPhase, slot := k, refilled := false,
                          phase := s.flashPhase } }) rfl).bothFailed (s.setLink_outputs l _))
  | outbid l a => exact .unlit (State.setLink_unlit rfl)
  | beat f => exact .unlit (.of_outputs rfl rfl rfl rfl)
  | status f =>
    have h := State.formStatus_unlit { s with former := f }
    exact .unlit ⟨h.working, h.peers, h.bothFailed, h.lit, h.unjudged⟩
  | sampled a => exact .unlit (s.sampled_unlit a)
  | patterned idle => exact .idle idle (off idle)
  | idled idle => exact .idle idle (off idle)
  | event check after running h => exact .event check after running h

theorem State.redsAlternate_of_idle {s : State} (off : s.isRunning = false) : s.redsAlternate :=
  fun running => absurd (off.symm.trans running) (by decide)

theorem State.greenGuarded_of_idle {s : State} (off : s.isRunning = false) (hand : s.hand.state = .off) :
    s.greenGuarded :=
  ⟨fun _ => hand, fun running => absurd (off.symm.trans running) (by decide)⟩

theorem State.undiagnosedFit_of_idle {s : State} (off : s.isRunning = false) : s.undiagnosedFit :=
  fun running => absurd (off.symm.trans running) (by decide)

theorem State.LampOutcome.redsAlternate {s t : State} (h : s.LampOutcome t) (hs : s.redsAlternate) :
    t.redsAlternate := by
  cases h with
  | idle off => exact State.redsAlternate_of_idle off
  | unlit h => exact h.redsAlternate hs
  | entered encoder ambient => exact (s.enterRun_shows encoder ambient).redsAlternate
  | event check after => exact (State.conclude_shows _ after).redsAlternate

theorem State.LampOutcome.greenGuarded {s t : State} (h : s.LampOutcome t) (hs : s.greenGuarded) : t.greenGuarded := by
  cases h with
  | idle off hand => exact State.greenGuarded_of_idle off (hand hs)
  | unlit h => exact h.greenGuarded hs
  | entered encoder ambient off =>
    have hrunning : (s.entered encoder ambient).isRunning = true := by
      rw [State.isRunning_eq_true_iff]
      have hstill : (s.entered encoder ambient).still = (s.entering encoder ambient).still := by simp [State.entered]
      exact (congrArg Still.stage hstill).trans (congrArg Still.stage (s.entering_still encoder ambient))
    exact (s.enterRun_shows encoder ambient).greenGuarded hrunning
      (State.enterRun_handGiven encoder ambient (hs.1 (.inr off)))
  | event check after running h =>
    have hafter : after.isRunning = true := by
      rwa [State.isRunning, show after.stage = s.stage from congrArg Fixed.stage h.fixed]
    have hgiven : s.handGiven := fun hnone => hs.1 (.inl hnone)
    exact (State.conclude_shows _ after).greenGuarded hafter (State.conclude_handGiven _ (h.works.handGiven hgiven))

theorem State.LampOutcome.undiagnosedFit {s t : State} (h : s.LampOutcome t) (hs : s.undiagnosedFit) :
    t.undiagnosedFit := by
  cases h with
  | idle off => exact State.undiagnosedFit_of_idle off
  | unlit h => exact h.undiagnosedFit hs
  | entered encoder ambient => exact (s.enterRun_shows encoder ambient).undiagnosedFit (s.entered_undiagnosedFit encoder ambient)
  | event check after running h => exact (State.conclude_shows _ after).undiagnosedFit (h.undiagnosedFit hs)

theorem State.Outcome.phaseFits {s t : State} {cmd : Instr} (h : s.Outcome cmd t) (hs : s.phaseFits) : t.phaseFits := by
  cases h with
  | same => exact hs
  | started strap1 strap2 =>
    exact ⟨fun h => by simp [State.configured, State.startUp, State.isRunning, Timer.isRunning] at h, fun _ => rfl,
      fun h => by simp [State.startUp, State.isRunning] at h⟩
  | reset =>
    exact ⟨fun h => by simp [State.configured, State.inReset, State.isRunning, Timer.isRunning] at h, fun _ => rfl,
      fun h => by simp [State.inReset, State.isRunning] at h⟩
  | refused check reading =>
    exact ⟨fun h => by simp [State.configured, State.failLoad, State.isRunning, Timer.isRunning] at h,
      fun _ => hs.2.1 (State.reading_notRunning reading), fun h => by simp [State.failLoad, State.isRunning] at h⟩
  | loaded check reading image c accepted =>
    have hoff := State.reading_notRunning reading
    exact ⟨fun _ => State.flashPeriod_of_load accepted, fun _ => hs.2.1 hoff,
      fun h => absurd (hoff.symm.trans h) (by decide)⟩
  | entered encoder ambient starting due => exact State.enterRun_phaseFits encoder ambient due hs
  | line i x => exact hs
  | heard l => exact State.phaseFits_of_fixed (s.setLink_fixed l _) (.inl (by simp)) hs
  | begun l k tel => exact State.phaseFits_of_fixed (s.setLink_fixed l _) (.inl (congrArg Lamps.phase (s.setLink_lamps l _))) hs
  | outbid l a => exact State.phaseFits_of_fixed (s.setLink_fixed l _) (.inl (by simp)) hs
  | beat f => exact hs
  | status f => exact State.phaseFits_of_still (State.formStatus_still _) hs
  | sampled a => exact hs
  | patterned => exact hs
  | idled => exact hs
  | event check after running h =>
    exact State.phaseFits_of_still (State.conclude_still _ after) (h.phaseFits running hs)

/-- Settles O58: at the end of an event every output shows the command that the state gives it (`State.Shows`), every
other command in RUN leaves the lit outputs alone (`State.Unlit`), and the phase is only run on, taken or corrected
modulo its period. -/
theorem stepKeepsLampLaws : Obligations.StepKeepsLampLaws := by
  intro s t h
  refine ⟨fun hs => ?_, fun hs => ?_, fun hs => ?_, fun hs => ?_⟩
  · exact State.step_keeps (P := State.redsAlternate) (fun _ _ h => h) (fun s => s.tick_unlit.redsAlternate)
      (fun _ _ _ hs hout => hout.lamp.redsAlternate hs) hs h
  · exact State.step_keeps (P := State.greenGuarded) (fun _ _ h => h) (fun s => s.tick_unlit.greenGuarded)
      (fun _ _ _ hs hout => hout.lamp.greenGuarded hs) hs h
  · exact State.step_keeps (P := State.undiagnosedFit) (fun _ _ h => h) (fun s => s.tick_unlit.undiagnosedFit)
      (fun _ _ _ hs hout => hout.lamp.undiagnosedFit hs) hs h
  · exact State.step_keeps (P := State.phaseFits) (fun _ _ h => h) (fun _ => State.tick_phaseFits)
      (fun _ _ _ hs hout => hout.phaseFits hs) hs h

end Sys2Proof.Machine

/-!
PROOFS. The step and its queue, reset and the read of the image (O1 to O6).
-/

namespace Sys2Proof.Machine

/-- Settles O1: by the definition of the step on a queue that is not empty. -/
theorem stepTakesFrontCommand : Obligations.StepTakesFrontCommand := fun _ _ _ => rfl

theorem State.step_of_empty {s : State} (h : s.pending = []) : step s = .next s.tick := by
  unfold step
  rw [h]

/-- The duty of a driven output's PWM period a millisecond on. -/
theorem Output.dutyAt_millisecond (c : StationConfig) (o : Output) :
    o.dutyAt c 1000 =
      if o.pwm + 1000 < c.pwmPeriod then o.pwmDuty else if o.retrying then c.retryDuty else o.duty := by
  unfold Output.dutyAt Output.dutyInPlace
  by_cases h : o.pwm + 1000 < c.pwmPeriod
  · rw [if_neg (not_le.mpr h), if_pos h]
  · rw [if_pos (not_lt.mp h), if_neg h]

/-- Settles O2: the tick of the clock, the phases and every driven output's PWM period, and nothing while in reset. -/
theorem emptyQueueStepIsOneMillisecond : Obligations.EmptyQueueStepIsOneMillisecond := by
  intro s hempty
  rw [State.step_of_empty hempty]
  refine ⟨fun h => ?_, fun h => ?_⟩
  · rw [State.tick, h]
    rfl
  · have hstage : (s.stage == Stage.inReset) = false := by simpa using h
    rw [State.tick, hstage, Lamps.tick]
    congr 3
    simp only [Output.tick, Output.dutyAt_millisecond]
    rfl

theorem State.pending_of_fixed {s t : State} (h : t.still.fixed = s.still.fixed) : t.pending = s.pending :=
  congrArg Fixed.pending h

theorem State.enterRun_pending (s : State) (encoder : Option Word16) (ambient : Byte) :
    (s.enterRun encoder ambient).pending = s.pending := by
  have hentering : (s.entering encoder ambient).pending = s.pending :=
    congrArg Still.pending (s.entering_still encoder ambient)
  have hentered := congrArg Still.pending (s.enterRun_still encoder ambient)
  simp only [State.still] at hentered
  rw [hentered, hentering]

theorem State.conclude_pending (before after : State) : (State.conclude before after).pending = after.pending := by
  have h := congrArg Still.pending (State.conclude_still before after)
  simpa only [State.still] using h

theorem State.Outcome.pending {s t : State} {cmd : Instr} (h : s.Outcome cmd t) : t.pending = s.pending := by
  cases h with
  | same => rfl
  | started strap1 strap2 => rfl
  | reset => rfl
  | refused => rfl
  | loaded => rfl
  | entered encoder ambient => exact s.enterRun_pending encoder ambient
  | line => rfl
  | heard l => exact s.setLink_pending l _
  | begun l => exact s.setLink_pending l _
  | outbid l => exact s.setLink_pending l _
  | beat => rfl
  | status f => exact congrArg Still.pending (State.formStatus_still _)
  | sampled => rfl
  | patterned => rfl
  | idled => rfl
  | event check after running h =>
    exact (State.conclude_pending _ after).trans (State.pending_of_fixed h.fixed)

/-- Settles O3: no outcome of a command touches the queue. -/
theorem commandsLeaveQueue : Obligations.CommandsLeaveQueue := fun _ _ _ h => (State.exec_outcome h).pending

/-! ### Reset -/

/-- The outputs of a part that enters STARTING stand under the pattern of the straps, at phase 0. -/
theorem strapPattern_outputs (strap1 strap2 : Bool) :
    (({ pattern := strapPattern strap1 strap2 } : Lamps).followDefault).outputs =
      Vector.ofFn fun _ => { command := strapPattern strap1 strap2, lit := decide (strapPattern strap1 strap2 ≠ .off) } := by
  cases strap1 <;> cases strap2 <;> decide

theorem State.startUp_eq (s : State) (strap1 strap2 : Bool) : s.startUp strap1 strap2 =
    { stage := .starting, clock := 0, loader := { read := .running 0 100 }, level := { timer := .running 0 20 },
      lamps := { pattern := strapPattern strap1 strap2,
                 outputs := Vector.ofFn fun _ =>
                   { command := strapPattern strap1 strap2, lit := decide (strapPattern strap1 strap2 ≠ .off) } },
      inputs := Vector.ofFn fun i : Fin 16 => { raw := s.inputs[i].raw }, drawn := s.drawn, pending := s.pending } := by
  rw [← strapPattern_outputs]
  rfl

/-- Settles O4: the states of `State.startUp` and `State.inReset`, field by field. -/
theorem resetCommands : Obligations.ResetCommands := by
  intro s strap1 strap2
  have hstarted : s.startUp strap1 strap2 = _ := s.startUp_eq strap1 strap2
  refine ⟨congrArg Host.Outcome.next hstarted, fun hstage => ?_, s.inReset, rfl, rfl, rfl, fun i => ?_, rfl, rfl, rfl, rfl⟩
  · have hrelease : exec (.rstRelease strap1 strap2) s = .next (s.startUp strap1 strap2) := by
      show execRstRelease strap1 strap2 s = _
      simp [execRstRelease, hstage]
    exact hrelease.trans (congrArg Host.Outcome.next hstarted)
  · simp [State.inReset]

theorem State.reset_journal : State.reset.seq.journal = [] ∧ State.reset.seq.step = none := ⟨rfl, rfl⟩

theorem State.reset_idle : State.reset.isRunning = false := rfl

theorem State.reset_peersFit : State.reset.peersFit := by
  simp [State.peersFit, State.reset, State.configured, State.isRunning, Timer.isRunning, PeerEntry.fits]

theorem State.reset_linksFit : State.reset.linksFit := by
  simp [State.linksFit, State.reset, LinkController.fits, LinkController.silent]

theorem State.reset_haltFits : State.reset.haltFits := by
  rw [State.haltFits_iff]
  exact ⟨fun h => (by cases h), fun _ => ⟨rfl, rfl⟩, HaltRecord.kept_empty _, rfl, fun h => (by cases h)⟩

/-- Settles O5: the reset values by definition; with nothing configured, running or moving, every invariant asks for
these values alone. -/
theorem resetValues : Obligations.ResetValues := by
  have hrest : State.reset.resting := ⟨rfl, rfl, rfl⟩
  refine ⟨rfl, rfl, fun i => ?_, rfl, rfl, rfl, rfl, rfl, rfl, rfl, rfl, rfl, rfl, rfl, rfl, rfl, rfl, rfl, fun i => ?_,
    fun l => ?_, rfl, State.reset_peersFit, State.reset_linksFit, State.reset_haltFits, hrest.motionFits,
    hrest.referenceGuarded, State.journalKept_of_empty State.reset_journal, State.redsAlternate_of_idle State.reset_idle,
    State.greenGuarded_of_idle State.reset_idle rfl, State.undiagnosedFit_of_idle State.reset_idle, ?_,
    accumulator_zero_fits⟩
  · simp [State.reset]
  · simp [State.reset]
  · cases l <;> exact ⟨rfl, rfl, rfl⟩
  · exact ⟨fun h => (by cases h), fun _ => rfl, fun h => (by cases h)⟩

/-! ### The read of the image -/

theorem State.reading_of_read {s : State} {start : Time} (starting : s.stage = .starting)
    (read : s.loader.read = .running start 100) : s.reading = true ∧ s.readTook = since s.clock start := by
  simp [State.reading, State.readTook, starting, read, Timer.isRunning]

/-- Settles O6: by the cases of the read's end. -/
theorem imageReadEnds : Obligations.ImageReadEnds := by
  intro s start starting read
  obtain ⟨hreading, htook⟩ := State.reading_of_read starting read
  have hjudged {image : List Byte} (hlength : image.length = 256) (hsince : since s.clock start ≤ 100) :
      exec (.imageReadEnd (some image)) s = .next (s.judgeImage image) := by
    show execImageReadEnd (some image) s = _
    simp [execImageReadEnd, hreading, htook, hlength, hsince, Config.readTime]
  refine ⟨fun image hlength hsince => ⟨fun c hc => ?_, fun hnone => ?_⟩, ?_, fun hsince => ?_⟩
  · rw [hjudged hlength hsince, State.judgeImage, hc]
    rfl
  · rw [hjudged hlength hsince, State.judgeImage, hnone]
    rfl
  · show execImageReadEnd none s = _
    simp [execImageReadEnd, hreading, State.failLoad]
  · have hdue : s.loader.read.due s.clock = true := by simp [Timer.due, read, hsince]
    show execImageReadTimeout s = _
    simp [execImageReadTimeout, hreading, hdue, State.failLoad]

end Sys2Proof.Machine

/-!
PROOFS. The configuration image: its judgements (O7) and the ranges of what is loaded (O8).
-/

namespace Sys2Proof.Machine

/-! ### Fields -/

theorem word16_toNat (hi lo : Byte) : (word16 hi lo).toNat = 256 * hi.toNat + lo.toNat := by
  rw [word16, BitVec.toNat_append, ← Nat.shiftLeft_add_eq_or_of_lt lo.isLt, Nat.shiftLeft_eq]
  omega

theorem field16_eq (image : List Byte) (o : Nat) : field16 image o = 256 * field8 image o + field8 image (o + 1) :=
  word16_toNat _ _

theorem field8_lt (image : List Byte) (o : Nat) : field8 image o < 256 := (image.getD o 0).isLt

theorem formatTag_iff (image : List Byte) :
    field16 image 0 = Config.formatTag ↔ field8 image 0 = 0x54 ∧ field8 image 1 = 0x34 := by
  have h0 := field8_lt image 0
  have h1 := field8_lt image 1
  rw [field16_eq, Config.formatTag, Nat.zero_add]
  omega

theorem configuredStation_isSome (n : Nat) : (configuredStation n).isSome = true ↔ 1 ≤ n ∧ n ≤ 30 := by
  unfold configuredStation
  split <;> simp_all

/-! ### Judgements 6 and 7 -/

theorem distinct_iff (l : List Nat) : distinct l = true ↔ l.Nodup := by
  induction l with
  | nil => simp [distinct]
  | cons n ns ih => simp [distinct, ih]

theorem distinct_peerStations_iff (records : Vector PeerConfig 16) :
    distinct (peerStations records) = true ↔
      ∀ i j : Fin 16, i ≠ j → records[i].station ≠ 0 → records[i].station ≠ records[j].station := by
  have hlength : records.toList.length = 16 := by simp
  rw [distinct_iff, peerStations, List.Nodup, List.pairwise_filter, List.pairwise_map, List.pairwise_iff_getElem]
  constructor
  · intro h i j hij hi heq
    have hj : records[j].station ≠ 0 := heq ▸ hi
    rcases Nat.lt_or_gt_of_ne (fun hv => hij (Fin.ext hv)) with hlt | hlt
    · exact h i.val j.val (by simp) (by simp) hlt (by simpa using hi) (by simpa using hj) (by simpa using heq)
    · exact h j.val i.val (by simp) (by simp) hlt (by simpa using hj) (by simpa using hi) (by simpa using heq.symm)
  · intro h i j hi hj hlt hi0 _ heq
    refine h ⟨i, hlength ▸ hi⟩ ⟨j, hlength ▸ hj⟩ (by simp; omega) (by simpa using hi0) (by simpa using heq)

theorem mem_toList_iff {α : Type} {n : Nat} (v : Vector α n) (x : α) : x ∈ v.toList ↔ ∃ i : Fin n, v[i] = x := by
  rw [List.mem_iff_getElem]
  constructor
  · rintro ⟨i, hi, rfl⟩
    exact ⟨⟨i, by simpa using hi⟩, by simp⟩
  · rintro ⟨i, rfl⟩
    exact ⟨i.val, by simp, by simp⟩

theorem contains_peerStations_iff {own : Nat} (hown : own ≠ 0) (records : Vector PeerConfig 16) :
    (peerStations records).contains own = false ↔ ∀ i : Fin 16, records[i].station ≠ own := by
  rw [← Bool.not_eq_true, List.contains_iff_mem, peerStations, List.mem_filter, List.mem_map]
  simp only [mem_toList_iff, bne_iff_ne]
  constructor
  · exact fun h i hi => h ⟨⟨_, ⟨i, rfl⟩, hi⟩, hown⟩
  · rintro h ⟨⟨_, ⟨i, rfl⟩, hi⟩, -⟩
    exact h i hi

theorem flagsPresent_iff (role : Role) (kind : BarrierKind) (records : Vector PeerConfig 16) :
    flagsPresent role kind records = true ↔
      ∀ f ∈ requiredFlags role kind, ∃ i : Fin 16, records[i].station ≠ 0 ∧ records[i].flags.getLsbD f.bit = true := by
  simp only [flagsPresent, List.all_eq_true, List.any_eq_true, mem_toList_iff, Bool.and_eq_true, bne_iff_ne]
  refine forall₂_congr fun f _ => ⟨?_, ?_⟩
  · rintro ⟨_, ⟨i, rfl⟩, h⟩
    exact ⟨i, h⟩
  · rintro ⟨i, h⟩
    exact ⟨_, ⟨i, rfl⟩, h⟩

theorem imageAccepted_iff (image : List Byte) :
    imageAccepted image = true ↔
      (imageCheck image).toNat = field16 image 254 ∧ field16 image 0 = Config.formatTag ∧
      (1 ≤ field8 image 2 ∧ field8 image 2 ≤ 30) ∧
      ∃ role, roleOf (image.getD 3 0) = some role ∧ peersFit (field8 image 2) (peerRecords image) = true ∧
        flagsPresent role (barrierKindOf (field8 image 4)) (peerRecords image) = true := by
  rw [← configuredStation_isSome]
  cases h : roleOf (image.getD 3 0) with
  | none => simp only [imageAccepted, h]; simp
  | some role => simp only [imageAccepted, h]; simp [and_assoc]

theorem loadImage_eq_some_iff {image : List Byte} {c : StationConfig} :
    loadImage image = some c ↔
      imageAccepted image = true ∧ ∃ role, roleOf (image.getD 3 0) = some role ∧ configOf role image = c := by
  unfold loadImage
  split
  next h => simp [h, Option.map_eq_some_iff]
  next h => simp [h]

theorem loadImage_isSome_iff (image : List Byte) : (loadImage image).isSome = true ↔ imageAccepted image = true := by
  rw [Option.isSome_iff_exists]
  constructor
  · rintro ⟨c, hc⟩
    exact (loadImage_eq_some_iff.mp hc).1
  · intro h
    obtain ⟨-, -, -, role, hrole, -⟩ := (imageAccepted_iff image).mp h
    exact ⟨_, loadImage_eq_some_iff.mpr ⟨h, role, hrole, rfl⟩⟩

/-- Settles O7: judgement by judgement. -/
theorem imageAcceptedByItsJudgements : Obligations.ImageAcceptedByItsJudgements := by
  intro image at8 records kind
  rw [loadImage_isSome_iff, imageAccepted_iff, field16_eq image 254, formatTag_iff]
  constructor
  · rintro ⟨hcheck, ⟨htag0, htag1⟩, ⟨hlow, hhigh⟩, role, hrole, hpeers, hflags⟩
    rw [peersFit, Bool.and_eq_true, Bool.not_eq_true'] at hpeers
    have hown : field8 image 2 ≠ 0 := by omega
    exact ⟨hcheck, htag0, htag1, hlow, hhigh, (contains_peerStations_iff hown _).mp hpeers.2,
      (distinct_peerStations_iff _).mp hpeers.1, role, hrole, (flagsPresent_iff _ _ _).mp hflags⟩
  · rintro ⟨hcheck, htag0, htag1, hlow, hhigh, hown, hdistinct, role, hrole, hflags⟩
    have hnonzero : field8 image 2 ≠ 0 := show at8 2 ≠ 0 by omega
    refine ⟨hcheck, ⟨htag0, htag1⟩, ⟨hlow, hhigh⟩, role, hrole, ?_, (flagsPresent_iff _ _ _).mpr hflags⟩
    rw [peersFit, Bool.and_eq_true, Bool.not_eq_true']
    exact ⟨(distinct_peerStations_iff _).mpr hdistinct, (contains_peerStations_iff hnonzero _).mpr hown⟩

/-! ### Ranges -/

theorem clampOrDefault_bounds {d lo hi : Nat} (x : Nat) (h : lo ≤ d ∧ d ≤ hi) :
    lo ≤ clampOrDefault d lo hi x ∧ clampOrDefault d lo hi x ≤ hi := by
  unfold clampOrDefault
  split
  · exact h
  · exact clampNat_bounds x (h.1.trans h.2)

theorem linkRateOf_mem (code : Nat) : linkRateOf code = 125 ∨ linkRateOf code = 250 ∨ linkRateOf code = 500 := by
  unfold linkRateOf
  split <;> simp

theorem haltMaskOf_bits (image : List Byte) :
    (haltMaskOf image).getLsbD 0 = false ∧ (haltMaskOf image).getLsbD 31 = false := by
  simp [haltMaskOf]

theorem configuredStation_toList_range {n k : Nat} (h : k ∈ (configuredStation n).toList) : 1 ≤ k ∧ k ≤ 30 := by
  unfold configuredStation at h
  split at h
  next hrange =>
    simp only [Option.toList_some, List.mem_singleton] at h
    exact h ▸ hrange
  next => simp at h

/-- Of two optional numbers, without duplicates, at most two are left. -/
theorem eraseDups_two (x y : Option Nat) :
    (x.toList ++ y.toList).eraseDups.length ≤ 2 ∧ (x.toList ++ y.toList).eraseDups.Nodup := by
  cases x with
  | none => cases y <;> simp [List.eraseDups_cons]
  | some a =>
    cases y with
    | none => simp [List.eraseDups_cons]
    | some b =>
      by_cases h : a = b
      · simp [h, List.eraseDups_cons]
      · simp [List.eraseDups_cons, h, Ne.symm h]

theorem deskSetOf_fits (image : List Byte) :
    (deskSetOf image).length ≤ 2 ∧ (deskSetOf image).Nodup ∧ ∀ n ∈ deskSetOf image, 1 ≤ n ∧ n ≤ 30 := by
  unfold deskSetOf
  obtain ⟨hlength, hnodup⟩ := eraseDups_two (configuredStation (field8 image 20)) (configuredStation (field8 image 21))
  refine ⟨hlength, hnodup, fun n hn => ?_⟩
  rw [List.mem_eraseDups, List.mem_append] at hn
  exact hn.elim configuredStation_toList_range configuredStation_toList_range

/-- Settles O8: each field is clamped into its range; the dependent ranges are clamped against the loaded values. -/
theorem loadedConfigurationInRange : Obligations.LoadedConfigurationInRange := by
  intro image c hload
  obtain ⟨hstation, -⟩ : (1 ≤ c.station ∧ c.station ≤ 30) ∧ True := ⟨State.station_of_load hload, trivial⟩
  obtain ⟨-, role, -, rfl⟩ := loadImage_eq_some_iff.mp hload
  have clamped {lo hi : Nat} (x : Nat) (h : lo ≤ hi) := clampNat_bounds x h
  have hbyte (o : Nat) : field8 image o ≤ 255 := Nat.le_of_lt_succ (field8_lt image o)
  have hvMax := clamped (lo := 1) (hi := 600) (field16 image 86) (by decide)
  have hvFull := clamped (lo := 1) (field16 image 88) hvMax.1
  have hskewWarn := clamped (lo := 5) (hi := 500) (field16 image 105) (by decide)
  refine ⟨hstation, linkRateOf_mem _, clampOrDefault_bounds _ (by decide), clamped _ (by decide),
    clampOrDefault_bounds _ (by decide), clamped _ (by decide), (clamped _ (by decide)).2, clamped _ (by decide),
    haltMaskOf_bits image, deskSetOf_fits image, fun i => ?_, clamped _ (by decide), clamped _ (by decide),
    clamped _ (by decide), clamped _ (by decide), hvMax, hvFull, clamped _ hvFull.1, clamped _ (by decide),
    clamped _ (by decide), hbyte _, hbyte _, (clamped _ (by decide)).2, clamped _ (by decide), (clamped _ (by decide)).2,
    clamped _ (by decide), clamped _ (by decide), hskewWarn, clamped _ ?_, flashPeriodOf_fits _, clamped _ (by decide),
    clamped _ (by decide), fun i => ?_, (clamped _ (by decide)).2, (clamped _ (by decide)).2, (clamped _ (by decide)).2,
    (clamped _ (by decide)).2, clamped _ (by decide), clamped _ (by decide), hbyte _, (clamped _ (by decide)).2,
    fun o ho => ?_⟩
  · simpa [configOf] using clamped (lo := 1) (hi := 2550) (field16 image (70 + 2 * i)) (by decide)
  · exact (Nat.succ_le_succ hskewWarn.2).trans (by decide)
  · simpa [configOf] using clamped (lo := 1) (hi := 4) (field8 image (137 + i)) (by decide)
  · simp [StationConfig.floorFor, ho]

end Sys2Proof.Machine

/-!
PROOFS. Forming and sending: what forming a telegram does (O49), how a link becomes busy (O26), the STATUS former (O28)
and the correction of the flash phase (O45).
-/

namespace Sys2Proof.Machine

/-! ### Forming a telegram -/

theorem State.place_placed (s : State) (k : SlotKind) (t : Telegram) : (s.place k t).placed k t := by
  intro l hl
  cases l
  all_goals
    simp only [State.place, State.link, LinkController.fill_failed, LinkController.slot_fill] at hl ⊢
    exact if_pos ⟨hl, trivial⟩

theorem State.formTelegram_placed (s : State) (k : SlotKind) (body : TelegramBody) :
    (s.formTelegram k body).placed k { sender := byteOf s.own, seq := s.former.sequence, body := body } :=
  State.place_placed _ k _

theorem Telegram.stamped_status {t : Telegram} {b : StatusBody} (h : t.body = .status b) (phase : Nat) :
    Telegram.stamped t phase = { t with body := .status { b with stamp := BitVec.ofNat 16 phase } } := by
  simp only [Telegram.stamped, h]

theorem Telegram.stamped_other {t : Telegram} (h : ∀ b, t.body ≠ .status b) (phase : Nat) :
    Telegram.stamped t phase = t := by
  unfold Telegram.stamped
  split
  next b hb => exact absurd hb (h b)
  · rfl

theorem Telegram.stamped_sender_seq (t : Telegram) (phase : Nat) :
    (Telegram.stamped t phase).sender = t.sender ∧ (Telegram.stamped t phase).seq = t.seq := by
  unfold Telegram.stamped
  split <;> exact ⟨rfl, rfl⟩

/-! ### Joining masks (R156) -/

/-- The mask of a HALT waiting on a link, none otherwise. -/
def LinkController.haltMaskWaiting (c : LinkController) : StationMask :=
  match c.haltcmd.map Telegram.body with
  | some (.halt m _) => m
  | _ => 0

/-- The mask of a RESUME waiting on a link, none otherwise. -/
def LinkController.resumeMaskWaiting (c : LinkController) : StationMask :=
  match c.haltcmd.map Telegram.body with
  | some (.resume m) => m
  | _ => 0

theorem joinHaltMask_append (mask : StationMask) (l l' : List TelegramBody) :
    joinHaltMask mask (l ++ l') = joinHaltMask (joinHaltMask mask l) l' := by
  induction l generalizing mask with
  | nil => rfl
  | cons b l ih => cases b <;> exact ih _

theorem joinResumeMask_append (mask : StationMask) (l l' : List TelegramBody) :
    joinResumeMask mask (l ++ l') = joinResumeMask (joinResumeMask mask l) l' := by
  induction l generalizing mask with
  | nil => rfl
  | cons b l ih => cases b <;> exact ih _

theorem joinHaltMask_waiting (mask : StationMask) (c : LinkController) :
    joinHaltMask mask (c.haltcmd.toList.map (·.body)) = mask ||| c.haltMaskWaiting := by
  unfold LinkController.haltMaskWaiting
  cases c.haltcmd with
  | none => simp [joinHaltMask]
  | some t =>
    obtain ⟨_, _, body⟩ := t
    cases body <;> simp [joinHaltMask]

theorem joinResumeMask_waiting (mask : StationMask) (c : LinkController) :
    joinResumeMask mask (c.haltcmd.toList.map (·.body)) = mask ||| c.resumeMaskWaiting := by
  unfold LinkController.resumeMaskWaiting
  cases c.haltcmd with
  | none => simp [joinResumeMask]
  | some t =>
    obtain ⟨_, _, body⟩ := t
    cases body <;> simp [joinResumeMask]

theorem State.joinHaltMask_waitingHaltcmd (s : State) (mask : StationMask) :
    joinHaltMask mask s.waitingHaltcmd = mask ||| s.linkA.haltMaskWaiting ||| s.linkB.haltMaskWaiting := by
  rw [State.waitingHaltcmd, List.map_append, joinHaltMask_append, joinHaltMask_waiting, joinHaltMask_waiting]

theorem State.joinResumeMask_waitingHaltcmd (s : State) (mask : StationMask) :
    joinResumeMask mask s.waitingHaltcmd = mask ||| s.linkA.resumeMaskWaiting ||| s.linkB.resumeMaskWaiting := by
  rw [State.waitingHaltcmd, List.map_append, joinResumeMask_append, joinResumeMask_waiting, joinResumeMask_waiting]

/-- A HALT formed: the halt mask joined with the masks of the HALTs waiting (R114, R156). -/
theorem State.formHalt_eq {s : State} (linked : s.bothFailed = false) (mask : s.cfg.haltMask ≠ 0) (reason : HaltReason) :
    s.formHalt reason = s.formTelegram .haltcmd
      (.halt (s.cfg.haltMask ||| s.linkA.haltMaskWaiting ||| s.linkB.haltMaskWaiting) reason.code) := by
  have formed : ¬(s.bothFailed || s.cfg.haltMask == 0) = true := by
    rw [linked, Bool.false_or, beq_iff_eq]
    exact mask
  rw [State.formHalt, if_neg formed, State.joinHaltMask_waitingHaltcmd]

/-- A RESUME formed: the halt mask joined with the masks of the RESUMEs waiting (R118, R156). -/
theorem State.formResume_eq {s : State} (linked : s.bothFailed = false) :
    s.formResume = s.formTelegram .haltcmd
      (.resume (s.cfg.haltMask ||| s.linkA.resumeMaskWaiting ||| s.linkB.resumeMaskWaiting)) := by
  rw [State.formResume, if_neg (by simp [linked]), State.joinResumeMask_waitingHaltcmd]

/-- Settles O49, from the equations of forming and of joining. -/
theorem telegramsAreNumberedAndJoined : Obligations.TelegramsAreNumberedAndJoined := by
  refine ⟨fun s k body => ⟨?_, s.formTelegram_placed k body⟩, fun tel phase => ?_, fun s reason linked => ?_⟩
  · rw [State.formTelegram_sequence, BitVec.toNat_add]
    rfl
  · obtain ⟨hsender, hseq⟩ := Telegram.stamped_sender_seq tel phase
    exact ⟨hsender, hseq, fun b hb => by rw [Telegram.stamped_status hb], fun h => Telegram.stamped_other h phase⟩
  · intro waitingHalt waitingResume
    have halt (c : LinkController) : c.haltMaskWaiting = waitingHalt c := by
      rcases hc : c.haltcmd with _ | ⟨_, _, body⟩
      · simp only [LinkController.haltMaskWaiting, waitingHalt, hc, Option.map_none]
      · cases body <;> simp only [LinkController.haltMaskWaiting, waitingHalt, hc, Option.map_some]
    have resume (c : LinkController) : c.resumeMaskWaiting = waitingResume c := by
      rcases hc : c.haltcmd with _ | ⟨_, _, body⟩
      · simp only [LinkController.resumeMaskWaiting, waitingResume, hc, Option.map_none]
      · cases body <;> simp only [LinkController.resumeMaskWaiting, waitingResume, hc, Option.map_some]
    refine ⟨fun mask => ?_, ?_⟩
    · rw [State.formHalt_eq linked mask, halt, halt]
      exact ⟨rfl, State.formTelegram_placed _ _ _⟩
    · rw [State.formResume_eq linked, resume, resume]
      exact ⟨rfl, State.formTelegram_placed _ _ _⟩

/-! ### How a link becomes busy -/

/-- The highest slot is the one with every slot before it empty (R154). -/
theorem LinkController.first_eq_some {c : LinkController} {k : SlotKind} {t : Telegram} (waits : c.slot k = some t)
    (haltcmd : k = .haltcmd ∨ c.haltcmd = none) (demand : k = .haltcmd ∨ k = .demand ∨ c.demand = none)
    (status : k ≠ .record ∨ c.status = none) : c.first = some (k, t) := by
  cases k
  case haltcmd =>
    have h : c.haltcmd = some t := waits
    simp only [LinkController.first, h]
  case demand =>
    have h : c.demand = some t := waits
    simp only [LinkController.first, h, haltcmd.resolve_left (by decide)]
  case status =>
    have h : c.status = some t := waits
    simp only [LinkController.first, h, haltcmd.resolve_left (by decide),
      (demand.resolve_left (by decide)).resolve_left (by decide)]
  case record =>
    have h : c.record = some t := waits
    simp only [LinkController.first, h, haltcmd.resolve_left (by decide),
      (demand.resolve_left (by decide)).resolve_left (by decide), status.resolve_left (by decide)]

/-- Settles O26: the two commands by their definitions, the slot by `LinkController.first_eq_some`. -/
theorem receptionsAndAttemptsBegin : Obligations.ReceptionsAndAttemptsBegin := by
  refine ⟨fun s l p hreceive hphase => ?_, fun s l k tel => ?_⟩
  · simp only [exec, execReceptionStart, hreceive, if_true, State.flashPhase, hphase, Option.getD_some]
  · intro c running linked idle silent waits haltcmd demand status phase sent a
    have first : (s.link l).first = some (k, tel) := LinkController.first_eq_some waits haltcmd demand status
    have may : s.maySend l = true := by
      simp only [c] at linked idle silent
      simp [State.maySend, running, linked, idle, silent]
    have hsent : Telegram.stamped tel s.flashPhase = sent := by
      obtain ⟨_, _, body⟩ := tel
      cases body <;> rfl
    simp only [exec, execAttemptBegin, first, may, if_true, hsent]
    rfl

/-! ### The STATUS former -/

/-- The STATUS formed at a station with a link that is not FAILED (R70, R158). -/
theorem State.formStatus_formed {s : State} (linked : s.bothFailed = false) :
    let t := s.formStatus
    t.placed .status { sender := byteOf s.own, seq := s.former.sequence, body := .status s.statusBody } ∧
      t.former.sequence = s.former.sequence + 1 ∧ t.former.period = .running s.clock s.cfg.statusPeriod ∧
      t.former.gap = .running s.clock 10 ∧ t.zoneFlag = s.zoneOccupied ∧
      (t.former.changePending = true ↔ s.hasDetectors = true ∧ t.zoneReport ≠ s.zoneReport) ∧
      t.seq = s.seq ∧ t.demand = s.demand ∧ t.halt = s.halt ∧ t.hand = s.hand ∧ t.lamps = s.lamps ∧
      t.level = s.level := by
  intro t
  have ht : t = s.formStatus := rfl
  rw [State.formStatus, if_neg (by simp [linked])] at ht
  have hpending : t.former.changePending = (s.hasDetectors && t.zoneReport != s.zoneReport) := by
    rw [ht]
    rfl
  refine ⟨?_, ?_⟩
  · rw [ht]
    exact s.formTelegram_placed .status _
  · refine ⟨by rw [ht]; rfl, by rw [ht]; rfl, by rw [ht]; rfl, by rw [ht]; rfl, ?_, by rw [ht]; rfl, by rw [ht]; rfl,
      by rw [ht]; rfl, by rw [ht]; rfl, by rw [ht]; rfl, by rw [ht]; rfl⟩
    rw [hpending, Bool.and_eq_true, bne_iff_ne]

theorem State.formStatus_of_bothFailed {s : State} (isolated : s.bothFailed = true) : s.formStatus = s := by
  rw [State.formStatus, if_pos isolated]

/-- Settles O28: both expiries form a STATUS as `State.formStatus_formed` says, or stop their timer. -/
theorem statusIsFormedAtExpiries : Obligations.StatusIsFormedAtExpiries := by
  intro s running tel forms
  have period (due : s.former.period.due s.clock = true) : exec .statusPeriodExpiry s =
      .next ({ s with former := { s.former with period := .stopped } } : State).formStatus := by
    simp only [exec, execStatusPeriodExpiry, running, due, Bool.and_self, if_true]
  have gap (due : s.former.gap.due s.clock = true) : exec .gapTimerExpiry s =
      .next (if s.former.changePending then ({ s with former := { s.former with gap := .stopped } } : State).formStatus
        else { s with former := { s.former with gap := .stopped } }) := by
    simp only [exec, execGapTimerExpiry, running, due, Bool.and_self, if_true]
  refine ⟨fun due => ⟨fun linked => ?_, fun isolated => ?_⟩, fun due => ⟨fun linked pending => ?_, fun h => ?_⟩⟩
  · exact ⟨_, period due, State.formStatus_still _, State.formStatus_formed (s := { s with former := _ }) linked⟩
  · exact (period due).trans (congrArg Host.Outcome.next (State.formStatus_of_bothFailed isolated))
  · rw [pending, if_pos rfl] at gap
    exact ⟨_, gap due, State.formStatus_still _, State.formStatus_formed (s := { s with former := _ }) linked⟩
  · cases pending : s.former.changePending with
    | true =>
      rw [pending, if_pos rfl] at gap
      exact (gap due).trans (congrArg Host.Outcome.next
        (State.formStatus_of_bothFailed (h.resolve_right (by simp [pending]))))
    | false =>
      rw [pending, if_neg Bool.false_ne_true] at gap
      exact gap due

/-! ### The correction of the flash phase -/

/-- The phase difference lies in -P/2..P/2-1 and is the given difference modulo P, for an even period (R132). -/
theorem phaseDifference_spec {period : Nat} (hpos : 0 < period) (even : period % 2 = 0) (stamp delay captured : Nat) :
    let d := phaseDifference period stamp delay captured;
    -((period : Int) / 2) ≤ d ∧ d < (period : Int) / 2 ∧ ((stamp : Int) + delay - captured - d) % period = 0 := by
  intro d
  have hnonneg := Int.emod_nonneg ((stamp : Int) + delay - captured) (Int.natCast_ne_zero.mpr hpos.ne')
  have hlt := Int.emod_lt_of_pos ((stamp : Int) + delay - captured) (Int.natCast_pos.mpr hpos)
  have hsub : ((stamp : Int) + delay - captured - ((stamp : Int) + delay - captured) % period) % period = 0 :=
    Int.emod_eq_zero_of_dvd (Int.dvd_self_sub_emod)
  have hd : d = if (period : Int) / 2 ≤ ((stamp : Int) + delay - captured) % period then
      ((stamp : Int) + delay - captured) % period - period else ((stamp : Int) + delay - captured) % period := rfl
  split at hd
  · refine ⟨by omega, by omega, ?_⟩
    rw [hd, ← sub_add, Int.add_emod_right]
    exact hsub
  · exact ⟨by omega, by omega, by rw [hd]; exact hsub⟩

/-- Settles O45: the difference of `phaseDifference_spec`, added whole or clamped. -/
theorem referenceCorrectsPhase : Obligations.ReferenceCorrectsPhase := by
  intro s stamp captured phase hphase hpos even period
  obtain ⟨hlo, hhi, hmod⟩ := phaseDifference_spec hpos even stamp s.cfg.linkDelay captured
  refine ⟨_, hlo, hhi, hmod, fun near => ?_, fun far => ?_⟩
  · simp only [State.correctPhase, near, decide_true, if_true, State.flashPhase, hphase, Option.getD_some]
    rfl
  · simp only [State.correctPhase, Nat.not_le.mpr far, decide_false, Bool.false_eq_true, if_false, State.flashPhase,
      hphase, Option.getD_some, clampInt_eq_max_min]
    rfl

end Sys2Proof.Machine

/-!
PROOFS. What the station shows: its phase (O36), its drive outputs (O47), its faults and HEALTHY line (O48).
-/

namespace Sys2Proof.Machine

/-! ### The phase -/

/-- The journal's top entry, taken from its step and state. -/
theorem journal_cons_of_head {j : List JournalEntry} {k : ForwardStep} {e : EntryState}
    (h : j.head?.map (·.step) = some k ∧ j.head?.map (·.state) = some e) :
    ∃ start rest, j = { step := k, state := e, start := start } :: rest := by
  obtain ⟨hstep, hstate⟩ := h
  cases j with
  | nil => cases hstep
  | cons x rest =>
    simp only [List.head?_cons, Option.map_some, Option.some.injEq] at hstep hstate
    subst hstep hstate
    exact ⟨x.start, rest, rfl⟩

theorem State.stepNow_of_doing {s : State} {k : ForwardStep} {d : Direction} (h : s.doing k d = true) :
    s.stepNow = some { kind := k, dir := d } := beq_iff_eq.mp h

theorem State.stepNow_of_none {s : State} (h : s.seq.step = none) : s.stepNow = none := by rw [State.stepNow, h]; rfl

theorem State.doing_of_none {s : State} (h : s.seq.step = none) (k : ForwardStep) (d : Direction) :
    s.doing k d = false := by rw [State.doing, State.stepNow_of_none h]; rfl

theorem State.adopted_of_kind_none {s : State} (h : s.adoptedKind = none) : s.demand.adopted = none :=
  Option.map_eq_none_iff.mp h

theorem State.adopted_of_kind {s : State} {k : DemandKind} (h : s.adoptedKind = some k) :
    ∃ d, s.demand.adopted = some d := by
  obtain ⟨d, hd, -⟩ := Option.map_eq_some_iff.mp h
  exact ⟨d, hd⟩

/-- Off a SIGNAL station the candidate is the one the demand and the journal name (R39). -/
theorem State.candidate_eq_journalCandidate {s : State} (h : s.role ≠ .signal) : s.candidate = s.journalCandidate := by
  simp [State.candidate, State.inRecovery, State.greenLost, h]

/-- The phase of a station as its STATUS carries it. -/
theorem State.shows_of_phase {s : State} {r : Role} {p : Phase} {code : Byte} (role : s.role = r) (h : s.phase = p)
    (hcode : phaseCode r p = code) : s.phase = p ∧ s.statusBody.phase = code := by
  refine ⟨h, ?_⟩
  rw [← hcode, ← h, ← role]
  rfl

section JournalCandidate

variable {s : State} {k : ForwardStep} {start : Time} {rest : List JournalEntry}

theorem State.journalCandidate_open_nil (hkind : s.adoptedKind = some .openBridge) (h : s.seq.journal = []) :
    s.journalCandidate = s.role.steps.head?.map (fun k => { kind := k, dir := .forward }) := by
  simp only [State.journalCandidate, hkind, h]

theorem State.journalCandidate_open_partway (hkind : s.adoptedKind = some .openBridge)
    (h : s.seq.journal = { step := k, state := .partway, start := start } :: rest) :
    s.journalCandidate = some { kind := k, dir := .forward } := by
  simp only [State.journalCandidate, hkind, h, beq_self_eq_true, if_true]

theorem State.journalCandidate_open_done (hkind : s.adoptedKind = some .openBridge)
    (h : s.seq.journal = { step := k, state := .done, start := start } :: rest) :
    s.journalCandidate = k.next.map (fun k => { kind := k, dir := .forward }) := by
  simp only [State.journalCandidate, hkind, h]
  exact if_neg (by decide)

theorem State.journalCandidate_close_nil (hkind : s.adoptedKind = some .closeBridge) (h : s.seq.journal = []) :
    s.journalCandidate = none := by
  simp only [State.journalCandidate, hkind, h]

theorem State.journalCandidate_close_cons {e : EntryState} (hkind : s.adoptedKind = some .closeBridge)
    (h : s.seq.journal = { step := k, state := e, start := start } :: rest) :
    s.journalCandidate = some { kind := k, dir := .inverse } := by
  simp only [State.journalCandidate, hkind, h]

end JournalCandidate

section BarrierPhase

variable {s : State} {k : DemandKind} {x : ForwardStep} (role : s.role = .barrier) (hstep : s.seq.step = none)
  (hkind : s.adoptedKind = some k)
include role hstep hkind

theorem State.barrierPhase_of_forward (hx : s.journalCandidate = some { kind := x, dir := .forward }) :
    s.phase = .waitLower := by
  obtain ⟨d, hd⟩ := State.adopted_of_kind hkind
  simp only [State.phase, role, State.barrierPhase, State.stepNow_of_none hstep, hd,
    State.candidate_eq_journalCandidate (s := s) (by simp [role]), hx]

theorem State.barrierPhase_of_inverse (hx : s.journalCandidate = some { kind := x, dir := .inverse }) :
    s.phase = .waitRaise := by
  obtain ⟨d, hd⟩ := State.adopted_of_kind hkind
  simp only [State.phase, role, State.barrierPhase, State.stepNow_of_none hstep, hd,
    State.candidate_eq_journalCandidate (s := s) (by simp [role]), hx]

theorem State.barrierPhase_of_no_candidate (hx : s.journalCandidate = none) :
    s.phase = if s.seq.journal.isEmpty then .raised else .lowered := by
  obtain ⟨d, hd⟩ := State.adopted_of_kind hkind
  simp only [State.phase, role, State.barrierPhase, State.stepNow_of_none hstep, hd,
    State.candidate_eq_journalCandidate (s := s) (by simp [role]), hx]

end BarrierPhase

section HoistPhase

variable {s : State} {k : DemandKind} {x : ForwardStep} (role : s.role = .hoist) (hstop : s.seq.stopping = false)
  (hstep : s.seq.step = none) (hshake : s.hoist.handshake = .none) (hkind : s.adoptedKind = some k)
include role hstop hstep hshake hkind

theorem State.hoistPhase_of_forward (hx : s.journalCandidate = some { kind := x, dir := .forward }) :
    s.phase = .waitRoad := by
  obtain ⟨d, hd⟩ := State.adopted_of_kind hkind
  simp only [State.phase, role, State.hoistPhase, hstop, Bool.false_eq_true, if_false, State.stepNow_of_none hstep, hd,
    hshake, State.candidate_eq_journalCandidate (s := s) (by simp [role]), hx]

theorem State.hoistPhase_of_lower (hx : s.journalCandidate = some { kind := .raise, dir := .inverse }) :
    s.phase = .waitChannel := by
  obtain ⟨d, hd⟩ := State.adopted_of_kind hkind
  simp only [State.phase, role, State.hoistPhase, hstop, Bool.false_eq_true, if_false, State.stepNow_of_none hstep, hd,
    hshake, State.candidate_eq_journalCandidate (s := s) (by simp [role]), hx]

theorem State.hoistPhase_of_driveIn (hx : s.journalCandidate = some { kind := .withdraw, dir := .inverse }) :
    s.phase = .seating := by
  obtain ⟨d, hd⟩ := State.adopted_of_kind hkind
  simp only [State.phase, role, State.hoistPhase, hstop, Bool.false_eq_true, if_false, State.stepNow_of_none hstep, hd,
    hshake, State.candidate_eq_journalCandidate (s := s) (by simp [role]), hx]

theorem State.hoistPhase_of_no_candidate (hx : s.journalCandidate = none) :
    s.phase = if s.seq.journal.isEmpty then .seated else .topHeld := by
  obtain ⟨d, hd⟩ := State.adopted_of_kind hkind
  simp only [State.phase, role, State.hoistPhase, hstop, Bool.false_eq_true, if_false, State.stepNow_of_none hstep, hd,
    hshake, State.candidate_eq_journalCandidate (s := s) (by simp [role]), hx]

end HoistPhase

/-- The phase of a BARRIER or HOIST in a step, by that step (R54, R76). -/
theorem State.phase_of_doing {s : State} {k : ForwardStep} {d : Direction} (h : s.doing k d = true) :
    (s.role = .barrier → s.phase =
      if k = .lower ∧ d = .forward then .lowering
      else if k = .lock then if d = .forward then .locking else .unlocking else .raising) ∧
    (s.role = .hoist → s.seq.stopping = false → s.phase =
      if k = .raise then if d = .forward then .raising else if s.hoist.seatingStage then .seating else .lowering
      else if k = .withdraw ∧ d = .forward then .withdrawing else .drivingIn) := by
  have hstep := State.stepNow_of_doing h
  refine ⟨fun role => ?_, fun role hstop => ?_⟩
  · simp only [State.phase, role, State.barrierPhase, hstep]
    cases k <;> cases d <;> rfl
  · simp only [State.phase, role, State.hoistPhase, hstop, Bool.false_eq_true, if_false, hstep]
    cases k <;> cases d <;> rfl

/-- The phase of a BARRIER, row by row of R54. -/
theorem State.barrier_shows {s : State} (role : s.role = .barrier) :
    let top (k : ForwardStep) (e : EntryState) : Prop :=
      s.seq.journal.head?.map (·.step) = some k ∧ s.seq.journal.head?.map (·.state) = some e
    let either (k : ForwardStep) : Prop := top k .done ∨ top k .partway
    let shows (p : Phase) (code : Byte) : Prop := s.phase = p ∧ s.statusBody.phase = code
    (s.doing .lower .forward = true → shows .lowering 2) ∧ (s.doing .lock .forward = true → shows .locking 3) ∧
    (s.doing .lock .inverse = true → shows .unlocking 6) ∧ (s.doing .lower .inverse = true → shows .raising 7) ∧
    (s.seq.step = none →
      (s.adoptedKind = none → s.seq.journal = [] → shows .raised 0) ∧
      (s.adoptedKind = none → s.seq.journal ≠ [] → shows .held 8) ∧
      (s.adoptedKind = some .openBridge → s.seq.journal = [] ∨ either .lower ∨ top .lock .partway →
        shows .waitLower 1) ∧
      (s.adoptedKind = some .openBridge → top .lock .done → shows .lowered 4) ∧
      (s.adoptedKind = some .closeBridge → s.seq.journal ≠ [] → shows .waitRaise 5) ∧
      (s.adoptedKind = some .closeBridge → s.seq.journal = [] → shows .raised 0)) := by
  intro top either shows
  have idle (hstep : s.seq.step = none) (hkind : s.adoptedKind = none) :
      s.phase = if s.seq.journal.isEmpty then .raised else .held := by
    simp only [State.phase, role, State.barrierPhase, State.stepNow_of_none hstep, State.adopted_of_kind_none hkind]
  refine ⟨fun h => ?_, fun h => ?_, fun h => ?_, fun h => ?_, fun hstep => ⟨fun hkind hj => ?_, fun hkind hj => ?_,
    fun hkind hj => ?_, fun hkind hj => ?_, fun hkind hj => ?_, fun hkind hj => ?_⟩⟩
  · exact State.shows_of_phase role ((State.phase_of_doing h).1 role) (by decide)
  · exact State.shows_of_phase role ((State.phase_of_doing h).1 role) (by decide)
  · exact State.shows_of_phase role ((State.phase_of_doing h).1 role) (by decide)
  · exact State.shows_of_phase role ((State.phase_of_doing h).1 role) (by decide)
  · exact State.shows_of_phase role (by simp [idle hstep hkind, hj]) (by decide)
  · exact State.shows_of_phase role (by simp [idle hstep hkind, hj]) (by decide)
  · have forward : ∃ k, s.journalCandidate = some { kind := k, dir := .forward } := by
      rcases hj with hj | (htop | htop) | htop
      · exact ⟨.lower, by rw [State.journalCandidate_open_nil hkind hj, role]; rfl⟩
      · obtain ⟨_, _, hj⟩ := journal_cons_of_head htop
        exact ⟨.lock, State.journalCandidate_open_done hkind hj⟩
      · obtain ⟨_, _, hj⟩ := journal_cons_of_head htop
        exact ⟨_, State.journalCandidate_open_partway hkind hj⟩
      · obtain ⟨_, _, hj⟩ := journal_cons_of_head htop
        exact ⟨_, State.journalCandidate_open_partway hkind hj⟩
    obtain ⟨_, hx⟩ := forward
    exact State.shows_of_phase role (State.barrierPhase_of_forward role hstep hkind hx) (by decide)
  · obtain ⟨_, _, hj⟩ := journal_cons_of_head hj
    have hphase := State.barrierPhase_of_no_candidate role hstep hkind (State.journalCandidate_open_done hkind hj)
    exact State.shows_of_phase role (hphase.trans (by simp [hj])) (by decide)
  · obtain ⟨_, _, hj⟩ := List.exists_cons_of_ne_nil hj
    exact State.shows_of_phase role
      (State.barrierPhase_of_inverse role hstep hkind (State.journalCandidate_close_cons hkind hj)) (by decide)
  · have hphase := State.barrierPhase_of_no_candidate role hstep hkind (State.journalCandidate_close_nil hkind hj)
    exact State.shows_of_phase role (hphase.trans (by simp [hj])) (by decide)

/-- The phase of a HOIST, row by row of R76. -/
theorem State.hoist_shows {s : State} (role : s.role = .hoist) :
    let top (k : ForwardStep) (e : EntryState) : Prop :=
      s.seq.journal.head?.map (·.step) = some k ∧ s.seq.journal.head?.map (·.state) = some e
    let either (k : ForwardStep) : Prop := top k .done ∨ top k .partway
    let shows (p : Phase) (code : Byte) : Prop := s.phase = p ∧ s.statusBody.phase = code
    (s.seq.stopping = true → shows .stopping 5) ∧
    (s.seq.stopping = false →
      (s.doing .withdraw .forward = true → shows .withdrawing 2) ∧
      (s.doing .raise .forward = true → shows .raising 4) ∧
      (s.doing .raise .inverse = true → s.hoist.seatingStage = false → shows .lowering 9) ∧
      (s.doing .raise .inverse = true → s.hoist.seatingStage = true → shows .seating 10) ∧
      (s.doing .withdraw .inverse = true → shows .drivingIn 11) ∧
      (s.seq.step = none →
        (s.adoptedKind = none → s.seq.journal ≠ [] → shows .held 12) ∧
        (s.adoptedKind = none → s.seq.journal = [] → shows .seated 0) ∧
        (s.adoptedKind ≠ none → s.hoist.handshake = .readyUp → shows .readyUp 3) ∧
        (s.adoptedKind ≠ none → s.hoist.handshake = .readyDown → shows .readyDown 8) ∧
        (s.hoist.handshake = .none →
          (s.adoptedKind = some .openBridge → s.seq.journal = [] ∨ either .withdraw ∨ top .raise .partway →
            shows .waitRoad 1) ∧
          (s.adoptedKind = some .openBridge → top .raise .done → shows .topHeld 6) ∧
          (s.adoptedKind = some .closeBridge → either .raise → shows .waitChannel 7) ∧
          (s.adoptedKind = some .closeBridge → either .withdraw → shows .seating 10) ∧
          (s.adoptedKind = some .closeBridge → s.seq.journal = [] → shows .seated 0)))) := by
  intro top either shows
  have hdoing (hstop : s.seq.stopping = false) {k : ForwardStep} {d : Direction} (h : s.doing k d = true) :=
    (State.phase_of_doing h).2 role hstop
  have idle (hstop : s.seq.stopping = false) (hstep : s.seq.step = none) (hkind : s.adoptedKind = none) :
      s.phase = if s.seq.journal.isEmpty then .seated else .held := by
    simp only [State.phase, role, State.hoistPhase, hstop, Bool.false_eq_true, if_false, State.stepNow_of_none hstep,
      State.adopted_of_kind_none hkind]
  have shaking (hstop : s.seq.stopping = false) (hstep : s.seq.step = none) (hkind : s.adoptedKind ≠ none) :
      (s.hoist.handshake = .readyUp → s.phase = .readyUp) ∧ (s.hoist.handshake = .readyDown → s.phase = .readyDown) := by
    obtain ⟨k, hk⟩ := Option.ne_none_iff_exists'.mp hkind
    obtain ⟨d, hd⟩ := State.adopted_of_kind hk
    simp only [State.phase, role, State.hoistPhase, hstop, Bool.false_eq_true, if_false, State.stepNow_of_none hstep, hd]
    exact ⟨fun h => by simp only [h], fun h => by simp only [h]⟩
  refine ⟨fun hstop => ?_, fun hstop => ⟨fun h => ?_, fun h => ?_, fun h hs => ?_, fun h hs => ?_, fun h => ?_,
    fun hstep => ⟨fun hkind hj => ?_, fun hkind hj => ?_, fun hkind hs => ?_, fun hkind hs => ?_, fun hshake =>
    ⟨fun hkind hj => ?_, fun hkind hj => ?_, fun hkind hj => ?_, fun hkind hj => ?_, fun hkind hj => ?_⟩⟩⟩⟩
  · exact State.shows_of_phase role (by simp only [State.phase, role, State.hoistPhase, hstop, if_true]) (by decide)
  · exact State.shows_of_phase role (hdoing hstop h) (by decide)
  · exact State.shows_of_phase role (hdoing hstop h) (by decide)
  · exact State.shows_of_phase role ((hdoing hstop h).trans (by simp [hs])) (by decide)
  · exact State.shows_of_phase role ((hdoing hstop h).trans (by simp [hs])) (by decide)
  · exact State.shows_of_phase role (hdoing hstop h) (by decide)
  · exact State.shows_of_phase role (by simp [idle hstop hstep hkind, hj]) (by decide)
  · exact State.shows_of_phase role (by simp [idle hstop hstep hkind, hj]) (by decide)
  · exact State.shows_of_phase role ((shaking hstop hstep hkind).1 hs) (by decide)
  · exact State.shows_of_phase role ((shaking hstop hstep hkind).2 hs) (by decide)
  · have forward : ∃ k, s.journalCandidate = some { kind := k, dir := .forward } := by
      rcases hj with hj | (htop | htop) | htop
      · exact ⟨.withdraw, by rw [State.journalCandidate_open_nil hkind hj, role]; rfl⟩
      · obtain ⟨_, _, hj⟩ := journal_cons_of_head htop
        exact ⟨.raise, State.journalCandidate_open_done hkind hj⟩
      · obtain ⟨_, _, hj⟩ := journal_cons_of_head htop
        exact ⟨_, State.journalCandidate_open_partway hkind hj⟩
      · obtain ⟨_, _, hj⟩ := journal_cons_of_head htop
        exact ⟨_, State.journalCandidate_open_partway hkind hj⟩
    obtain ⟨_, hx⟩ := forward
    exact State.shows_of_phase role (State.hoistPhase_of_forward role hstop hstep hshake hkind hx) (by decide)
  · obtain ⟨_, _, hj⟩ := journal_cons_of_head hj
    have hphase := State.hoistPhase_of_no_candidate role hstop hstep hshake hkind
      (State.journalCandidate_open_done hkind hj)
    exact State.shows_of_phase role (hphase.trans (by simp [hj])) (by decide)
  · obtain ⟨e, _, _, hj⟩ : ∃ e start rest, s.seq.journal = { step := .raise, state := e, start := start } :: rest :=
      hj.elim (fun h => ⟨_, journal_cons_of_head h⟩) (fun h => ⟨_, journal_cons_of_head h⟩)
    exact State.shows_of_phase role (State.hoistPhase_of_lower role hstop hstep hshake hkind
      (State.journalCandidate_close_cons hkind hj)) (by decide)
  · obtain ⟨e, _, _, hj⟩ : ∃ e start rest, s.seq.journal = { step := .withdraw, state := e, start := start } :: rest :=
      hj.elim (fun h => ⟨_, journal_cons_of_head h⟩) (fun h => ⟨_, journal_cons_of_head h⟩)
    exact State.shows_of_phase role (State.hoistPhase_of_driveIn role hstop hstep hshake hkind
      (State.journalCandidate_close_cons hkind hj)) (by decide)
  · have hphase := State.hoistPhase_of_no_candidate role hstop hstep hshake hkind
      (State.journalCandidate_close_nil hkind hj)
    exact State.shows_of_phase role (hphase.trans (by simp [hj])) (by decide)

/-- The phase of a SIGNAL station out of recovery and with no GREEN or GREEN_OFF in progress, by its journal (R62). -/
theorem State.signalPhase_of_journal {s : State} (role : s.role = .signal) (hrec : s.signal.recovering = false)
    (green : s.doing .green .forward = false) (greenOff : s.doing .green .inverse = false) :
    (s.seq.journal = [] → s.phase = .idle) ∧
    ∀ k e start rest, s.seq.journal = { step := k, state := e, start := start } :: rest → s.phase =
      if k = .green then if e = .done then .channelOpen else .channelClosing
      else if k = .red then if e = .partway then .roadStopping
        else if s.adoptedKind = some .closeBridge then .waitRoadOpen else .roadStopped
      else .prewarn := by
  have hphase : s.phase = s.signalPhase := by simp only [State.phase, role]
  rw [hphase]
  refine ⟨fun hj => ?_, fun k e start rest hj => ?_⟩
  · simp only [State.signalPhase, hrec, green, greenOff, Bool.false_eq_true, if_false, hj]
  · simp only [State.signalPhase, hrec, green, greenOff, Bool.false_eq_true, if_false, hj, beq_iff_eq]
    cases k <;> simp

/-- The phase of a SIGNAL station, row by row of R62. -/
theorem State.signal_shows {s : State} (role : s.role = .signal) :
    let top (k : ForwardStep) (e : EntryState) : Prop :=
      s.seq.journal.head?.map (·.step) = some k ∧ s.seq.journal.head?.map (·.state) = some e
    let either (k : ForwardStep) : Prop := top k .done ∨ top k .partway
    let shows (p : Phase) (code : Byte) : Prop := s.phase = p ∧ s.statusBody.phase = code
    (s.signal.recovering = true → shows .recovering 8) ∧
    (s.signal.recovering = false →
      (s.doing .amber .forward = true ∨ s.seq.step = none → either .amber → shows .prewarn 1) ∧
      (s.doing .red .forward = true ∨ s.seq.step = none → top .red .partway → shows .roadStopping 2) ∧
      (s.doing .green .forward = true → shows .channelClearing 4) ∧
      (s.doing .green .inverse = true → shows .channelClosing 6) ∧
      (s.seq.step = none →
        (s.seq.journal = [] → shows .idle 0) ∧
        (top .red .done → s.adoptedKind ≠ some .closeBridge → shows .roadStopped 3) ∧
        (top .red .done → s.adoptedKind = some .closeBridge → shows .waitRoadOpen 7) ∧
        (top .green .done → shows .channelOpen 5) ∧
        (top .green .partway → shows .channelClosing 6))) := by
  intro top either shows
  have notGreen {k : ForwardStep} (hk : k ≠ .green) (h : s.doing k .forward = true ∨ s.seq.step = none) (d : Direction) :
      s.doing .green d = false := by
    rcases h with h | h
    · rw [State.doing, State.stepNow_of_doing h]
      simp [hk]
    · exact State.doing_of_none h .green d
  have byJournal (hrec : s.signal.recovering = false) (h : ∀ d, s.doing .green d = false) :=
    State.signalPhase_of_journal role hrec (h .forward) (h .inverse)
  refine ⟨fun hrec => ?_, fun hrec => ⟨fun h ht => ?_, fun h ht => ?_, fun h => ?_, fun h => ?_, fun hstep =>
    ⟨fun hj => ?_, fun ht hk => ?_, fun ht hk => ?_, fun ht => ?_, fun ht => ?_⟩⟩⟩
  · exact State.shows_of_phase role (by simp only [State.phase, role, State.signalPhase, hrec, if_true]) (by decide)
  · obtain ⟨e, _, _, hj⟩ : ∃ e start rest, s.seq.journal = { step := .amber, state := e, start := start } :: rest :=
      ht.elim (fun h => ⟨_, journal_cons_of_head h⟩) (fun h => ⟨_, journal_cons_of_head h⟩)
    exact State.shows_of_phase role ((byJournal hrec (notGreen (by decide) h)).2 _ _ _ _ hj) (by decide)
  · obtain ⟨_, _, hj⟩ := journal_cons_of_head ht
    exact State.shows_of_phase role ((byJournal hrec (notGreen (by decide) h)).2 _ _ _ _ hj) (by decide)
  · exact State.shows_of_phase role
      (by simp only [State.phase, role, State.signalPhase, hrec, Bool.false_eq_true, if_false, h, if_true]) (by decide)
  · have forward : s.doing .green .forward = false := by rw [State.doing, State.stepNow_of_doing h]; rfl
    exact State.shows_of_phase role
      (by simp only [State.phase, role, State.signalPhase, hrec, Bool.false_eq_true, if_false, forward, h, if_true])
      (by decide)
  all_goals have byJournal := byJournal hrec (State.doing_of_none hstep .green)
  · exact State.shows_of_phase role (byJournal.1 hj) (by decide)
  · obtain ⟨_, _, hj⟩ := journal_cons_of_head ht
    exact State.shows_of_phase role ((byJournal.2 _ _ _ _ hj).trans (by simp [hk])) (by decide)
  · obtain ⟨_, _, hj⟩ := journal_cons_of_head ht
    exact State.shows_of_phase role ((byJournal.2 _ _ _ _ hj).trans (by simp [hk])) (by decide)
  · obtain ⟨_, _, hj⟩ := journal_cons_of_head ht
    exact State.shows_of_phase role (byJournal.2 _ _ _ _ hj) (by decide)
  · obtain ⟨_, _, hj⟩ := journal_cons_of_head ht
    exact State.shows_of_phase role (byJournal.2 _ _ _ _ hj) (by decide)

/-- Settles O36, role by role. -/
theorem phaseNamesWhatStationDoes : Obligations.PhaseNamesWhatStationDoes := by
  intro s _
  exact ⟨State.barrier_shows, State.hoist_shows, State.signal_shows,
    fun role => State.shows_of_phase role (by simp only [State.phase, role]) (by decide)⟩

end Sys2Proof.Machine

/-!
PROOFS. The drive outputs (O47), the faults and the HEALTHY line (O48), the adopted identity over every command (O59) and
the quiet of a station outside RUN and HAND (O60).
-/

namespace Sys2Proof.Machine

/-! ### Drive outputs -/

theorem State.generalOutputs_of_idle {s : State} (h : s.isRunning = false) :
    s.generalOutputs = List.replicate 8 false := by
  cases hrole : s.role <;>
    simp [State.generalOutputs, hrole, State.armDown, State.armUp, State.lockOn, State.lockOff, State.locksPull,
      State.locksPush, State.driveEnable, State.brakeRelease, h, List.replicate]

theorem State.generalOutputs_of_halted {s : State} (h : s.halted = true) :
    s.generalOutputs = List.replicate 8 false := by
  cases hrole : s.role <;>
    simp [State.generalOutputs, hrole, State.armDown, State.armUp, State.lockOn, State.lockOff, State.locksPull,
      State.locksPush, State.driveEnable, State.brakeRelease, h, List.replicate]

/-- A station whose motion is kept is not halted while it steps or moves by hand. -/
theorem State.motionFits.not_halted {s : State} (hs : s.motionFits) (h : s.seq.step ≠ none ∨ s.hand.move ≠ none) :
    s.halted = false := by
  by_contra hhalted
  obtain ⟨hstep, hmove, -⟩ := hs.halted (by simpa using hhalted)
  exact h.elim (· hstep) (· hmove)

theorem State.motionFits.not_halted_of_doing {s : State} (hs : s.motionFits) {k : ForwardStep} {d : Direction}
    (h : s.doing k d = true) : s.halted = false :=
  hs.not_halted (.inl (State.step_ne_none_of_doing h))

theorem State.motionFits.not_halted_of_travel {s : State} (hs : s.motionFits) (h : s.hoistTravel = true) :
    s.halted = false :=
  hs.not_halted (.inl (State.step_ne_none_of_hoistTravel h))

theorem State.motionFits.not_halted_of_move {s : State} (hs : s.motionFits) (h : s.hand.move.isSome = true) :
    s.halted = false :=
  hs.not_halted (.inr (Option.isSome_iff_ne_none.mp h))

/-- No step is in progress during a hand move. -/
theorem State.motionFits.step_of_move {s : State} (hs : s.motionFits) (h : s.hand.move.isSome = true) :
    s.seq.step = none := by
  obtain ⟨-, hhand, hmove, -⟩ := hs
  exact hhand (hmove h)

/-- A station does one step at a time. -/
theorem State.doing_unique {s : State} {k k' : ForwardStep} {d d' : Direction} (h : s.doing k d = true)
    (h' : s.doing k' d' = true) : k = k' ∧ d = d' := by
  have := (State.stepNow_of_doing h).symm.trans (State.stepNow_of_doing h')
  simpa using this

section Barrier

variable {s : State} (hs : s.motionFits) (running : s.isRunning = true) (role : s.role = .barrier)
include hs running role

theorem State.armDown_iff : s.armDown = true ↔ s.doing .lower .forward = true ∨ s.hand.move = some .down := by
  have free : s.doing .lower .forward = true ∨ s.hand.move = some .down → s.halted = false := fun h =>
    h.elim hs.not_halted_of_doing fun h => hs.not_halted_of_move (by simp [h])
  simpa [State.armDown, running, role] using free

theorem State.armUp_iff : s.armUp = true ↔ s.doing .lower .inverse = true ∨ s.hand.move = some .up := by
  have free : s.doing .lower .inverse = true ∨ s.hand.move = some .up → s.halted = false := fun h =>
    h.elim hs.not_halted_of_doing fun h => hs.not_halted_of_move (by simp [h])
  simpa [State.armUp, running, role] using free

theorem State.lockOn_iff : s.lockOn = true ↔ s.doing .lock .forward = true := by
  simpa [State.lockOn, running, role] using hs.not_halted_of_doing (k := .lock) (d := .forward)

theorem State.lockOff_iff : s.lockOff = true ↔ s.doing .lock .inverse = true := by
  simpa [State.lockOff, running, role] using hs.not_halted_of_doing (k := .lock) (d := .inverse)

/-- No two drives of a barrier are active together: a station does one step at a time, and none during a hand move. -/
theorem State.barrier_one_drive : (s.generalOutputs.filter id).length ≤ 1 := by
  have idle (h : s.hand.move.isSome = true) (k : ForwardStep) (d : Direction) : s.doing k d = false :=
    State.doing_of_none (hs.step_of_move h) k d
  have outputs : s.generalOutputs = [s.doing .lower .forward || s.hand.move == some .down,
      s.doing .lower .inverse || s.hand.move == some .up, s.doing .lock .forward, s.doing .lock .inverse, false, false,
      false, false] := by
    simp only [State.generalOutputs, role, List.cons.injEq, and_true]
    exact ⟨Bool.eq_iff_iff.mpr (by simpa using State.armDown_iff hs running role),
      Bool.eq_iff_iff.mpr (by simpa using State.armUp_iff hs running role),
      Bool.eq_iff_iff.mpr (State.lockOn_iff hs running role), Bool.eq_iff_iff.mpr (State.lockOff_iff hs running role)⟩
  rw [outputs]
  rcases hmove : s.hand.move with _ | m
  · rcases hstep : s.stepNow with _ | ⟨k, d⟩
    · simp [State.doing, hstep]
    · simp only [State.doing, hstep]
      cases k <;> cases d <;> decide
  · simp only [idle (by simp [hmove])]
    cases m <;> decide

end Barrier

section Hoist

variable {s : State} (hs : s.motionFits) (running : s.isRunning = true) (role : s.role = .hoist)
include hs running role

theorem State.locksPull_iff : s.locksPull = true ↔ s.doing .withdraw .forward = true := by
  simpa [State.locksPull, running, role] using hs.not_halted_of_doing (k := .withdraw) (d := .forward)

theorem State.locksPush_iff : s.locksPush = true ↔ s.doing .withdraw .inverse = true := by
  simpa [State.locksPush, running, role] using hs.not_halted_of_doing (k := .withdraw) (d := .inverse)

theorem State.driveEnable_iff : s.driveEnable = true ↔
    s.hoistTravel = true ∨ s.hand.move.isSome = true ∨
      s.doing .withdraw .inverse = true ∧ s.hoist.driveHeld = true := by
  have free : s.hoistTravel = true ∨ s.hand.move.isSome = true ∨
      s.doing .withdraw .inverse = true ∧ s.hoist.driveHeld = true → s.halted = false := by
    rintro (h | h | ⟨h, -⟩)
    · exact hs.not_halted_of_travel h
    · exact hs.not_halted_of_move h
    · exact hs.not_halted_of_doing h
  have unfolded : s.driveEnable = true ↔ s.halted = false ∧ (s.hoistTravel = true ∨ s.hand.move.isSome = true ∨
      s.doing .withdraw .inverse = true ∧ s.hoist.driveHeld = true) := by
    simp only [State.driveEnable, running, role, beq_self_eq_true, Bool.true_and, Bool.and_eq_true, Bool.or_eq_true,
      Bool.not_eq_eq_eq_not, Bool.not_true]
    tauto
  rw [unfolded]
  exact and_iff_right_of_imp free

theorem State.brakeRelease_iff : s.brakeRelease = true ↔ s.hoistTravel = true ∨ s.hand.move.isSome = true := by
  have free : s.hoistTravel = true ∨ s.hand.move.isSome = true → s.halted = false := fun h =>
    h.elim hs.not_halted_of_travel hs.not_halted_of_move
  simp only [State.brakeRelease, running, role, beq_self_eq_true, Bool.true_and, Bool.and_eq_true, Bool.or_eq_true,
    Bool.not_eq_eq_eq_not, Bool.not_true]
  exact and_iff_right_of_imp free

end Hoist

/-- Settles O47, from what each drive output is active for and from one step being in progress at a time. -/
theorem drivesFollowSteps : Obligations.DrivesFollowSteps := by
  intro s hs
  refine ⟨State.generalOutputs_of_idle, fun running role => ?_, fun running role => ?_, fun role => ?_,
    State.generalOutputs_of_halted⟩
  · exact ⟨State.armDown_iff hs running role, State.armUp_iff hs running role, State.lockOn_iff hs running role,
      State.lockOff_iff hs running role, State.barrier_one_drive hs running role⟩
  · have pull := State.locksPull_iff hs running role
    have push := State.locksPush_iff hs running role
    refine ⟨pull, push, State.driveEnable_iff hs running role, State.brakeRelease_iff hs running role, ?_, fun h => ?_⟩
    · rintro ⟨hpull, hpush⟩
      obtain ⟨-, hdir⟩ := State.doing_unique (pull.mp hpull) (push.mp hpush)
      cases hdir
    · have travel : ∃ d, s.doing .raise d = true := by
        simp only [State.hoistTravel, Bool.and_eq_true, Bool.or_eq_true] at h
        exact h.2.elim (fun h => ⟨_, h⟩) (fun h => ⟨_, h⟩)
      obtain ⟨_, travel⟩ := travel
      refine ⟨Bool.eq_false_iff.mpr fun h => ?_, Bool.eq_false_iff.mpr fun h => ?_⟩
      · cases (State.doing_unique travel (pull.mp h)).1
      · cases (State.doing_unique travel (push.mp h)).1
  · rcases role with role | role <;> simp [State.generalOutputs, role, List.replicate]

/-! ### Faults -/

theorem FaultName.mem_all (f : FaultName) : f ∈ FaultName.all := by cases f <;> decide

theorem State.masked_iff (s : State) (f : FaultName) :
    s.masked f = true ↔ f = .lampOpen ∧ s.cfg.maskOpen = true ∨ f = .lampShort ∧ s.cfg.maskShort = true := by
  cases f <;> simp [State.masked]

/-- The bits of the fault set stand in the order of the fault table (R173). -/
theorem State.faultSet_bit (s : State) {k : Nat} {f : FaultName} (h : FaultName.all[k]? = some f) :
    s.faultSet.getLsbD k = s.hasFault f := by
  have hk : k < 19 := (List.getElem?_eq_some_iff.mp h).1
  rw [State.faultSet, BitVec.getLsbD_ofNat, testBit_bitsToNat, List.getElem?_map, h]
  simp [hk]

theorem State.someOutput_iff (s : State) (p : Proof) :
    s.lamps.outputs.toList.any (·.proof == p) = true ↔ ∃ i : Fin 12, s.lamps.outputs[i].proof = p := by
  simp only [List.any_eq_true, mem_toList_iff, beq_iff_eq]
  constructor
  · rintro ⟨_, ⟨i, rfl⟩, h⟩
    exact ⟨i, h⟩
  · rintro ⟨i, h⟩
    exact ⟨_, ⟨i, rfl⟩, h⟩

/-- Settles O48: every fault is in the table, and the masks name the lamp faults alone. -/
theorem healthyReportsFaults : Obligations.HealthyReportsFaults := by
  intro s
  refine ⟨?_, s.someOutput_iff .openCircuit, s.someOutput_iff .short, fun k f h => s.faultSet_bit h⟩
  simp only [State.healthy, Bool.and_eq_true, List.all_eq_true, Bool.or_eq_true, Bool.not_eq_eq_eq_not, Bool.not_true,
    ← State.masked_iff]
  refine and_congr_right fun _ => ⟨fun h f hf => ?_, fun h f _ => ?_⟩
  · exact (h f f.mem_all).resolve_left (by simp [hf])
  · cases hf : s.hasFault f
    · exact .inl rfl
    · exact .inr (h f hf)

/-! ### The adopted identity -/

/-- The adopted demand stays, or is replaced by one of a greater identity (R26). -/
def State.demandRises (s t : State) : Prop :=
  t.demand.adopted = s.demand.adopted ∨ ∃ d, t.demand.adopted = some d ∧ d.exceeds s.demand.adopted = true

theorem State.demandRises.of_still {s t : State} (h : t.still = s.still) : s.demandRises t :=
  .inl (congrArg Still.adopted h)

theorem State.receiveDemand_rises (s : State) (d : Demand) : s.demandRises (s.receiveDemand d) := by
  rcases s.receiveDemand_cases d with ⟨-, h⟩ | ⟨hd, h⟩
  · rw [h]
    exact .inl rfl
  · rw [h]
    exact .inr ⟨d, by rw [State.adopt_demand], hd⟩

theorem State.takeDemand_rises (s : State) (sender : Nat) (kind : Byte) (number : Word16) :
    s.demandRises (s.takeDemand sender kind number) := by
  unfold State.takeDemand
  split
  · exact s.receiveDemand_rises _
  · exact .inl rfl

theorem State.takeEcho_rises (s : State) (echo : Option Echo) : s.demandRises (s.takeEcho echo) := by
  unfold State.takeEcho
  split
  · split
    · exact s.receiveDemand_rises _
    · exact .inl rfl
  · exact .inl rfl

theorem State.nextDemand_exceeds (s : State) (k : DemandKind) : (s.nextDemand k).exceeds s.demand.adopted = true := by
  cases h : s.demand.adopted with
  | none => rfl
  | some a =>
    have hnumber : a.number < s.nextNumber := by
      rw [State.nextNumber, h]
      exact Nat.lt_succ_of_le (le_max_right _ _)
    exact (identityGreater_eq_true_iff _ _ _ _).mpr (.inl hnumber)

theorem State.pressDemand_rises (s : State) (k : DemandKind) : s.demandRises (s.pressDemand k) := by
  rcases s.pressDemand_cases k with ⟨-, h⟩ | ⟨-, -, h⟩ | ⟨-, -, h⟩ <;> rw [h]
  · exact .inl rfl
  · exact .inl rfl
  · exact .inr ⟨s.nextDemand k, by rw [State.formTelegram_demand, State.issued, State.adopt_demand],
      s.nextDemand_exceeds k⟩

theorem State.inputChanged_rises (s : State) (i : Fin 16) (active : Bool) (encoder : Option Word16) :
    s.demandRises (s.inputChanged i active encoder) := by
  have buttons (m : HandMove) (k : DemandKind) : s.demandRises (s.buttonChanged m k active) := by
    unfold State.buttonChanged
    split
    · split
      · exact s.pressDemand_rises k
      · exact .inl rfl
    · exact .inl rfl
    · exact .of_still (s.handButtonChanged_still m active)
  have detectors (k : Nat) : s.demandRises (s.detectorChanged k active) := by
    unfold State.detectorChanged
    split <;> exact .inl rfl
  unfold State.inputChanged
  split
  · split
    · exact .of_still (s.raiseCause_still _)
    · exact .inl rfl
  · split
    · split
      · exact .of_still s.keyActive_still
      · exact .inl (congrArg Still.adopted (s.keyInactive_still encoder))
    · exact .inl rfl
  · exact buttons _ _
  · exact buttons _ _
  · split
    · exact .of_still (by unfold State.pressHalt; split <;> simp)
    · exact .inl rfl
  · split
    · exact .of_still (by simp [State.pressResume])
    · exact .inl rfl
  · exact detectors 0
  · exact detectors 1
  · exact detectors 2
  · exact detectors 3
  · exact .inl rfl

theorem State.demandRises.from {s t u : State} (h : t.demandRises u) (same : t.demand.adopted = s.demand.adopted) :
    s.demandRises u := by
  rw [State.demandRises, same] at h
  exact h

theorem State.handOn_rises (s : State) (sender : Nat) (body : TelegramBody) :
    s.demandRises (s.handOn sender body) := by
  cases body with
  | halt mask reason => exact .of_still (s.takeHalt_still sender mask reason)
  | resume mask => exact .of_still (s.takeResume_still sender mask)
  | demand kind number => exact s.takeDemand_rises sender kind number
  | query target => exact .of_still (s.takeQuery_still sender target.toNat)
  | status body => exact .inl rfl
  | record bytes => exact .inl rfl

theorem State.recordStatus_adopted (s : State) (i : Fin 16) (p : PeerEntry) (fits : Bool) (stamp captured : Nat) :
    (s.recordStatus i p fits stamp captured).demand.adopted = s.demand.adopted :=
  congrArg Still.adopted (s.recordStatus_still i p fits stamp captured)

theorem State.Delivered.demandRises {s d : State} {l : Link} {captured : Nat} {t : Telegram}
    (h : s.Delivered l captured t d) : s.demandRises d := by
  cases h with
  | dropped => exact .inl rfl
  | own => exact .of_still (s.raiseCause_still _)
  | handed => exact s.handOn_rises _ _
  | status _ _ i body =>
    rw [State.acceptStatus_eq]
    split
    · exact (State.takeEcho_rises _ _).from (s.recordStatus_adopted _ _ _ _ _)
    · exact .inl (s.recordStatus_adopted _ _ _ _ _)
  | taken _ _ i => exact (State.handOn_rises _ _ _).from rfl

theorem State.setHealth_adopted (s : State) (l : Link) (n : Nat) :
    (s.setHealth l n).demand.adopted = s.demand.adopted := by
  have h := congrArg Still.adopted (s.setHealth_still l n)
  cases l <;> exact h

theorem State.countValid_adopted (s : State) (l : Link) : (s.countValid l).demand.adopted = s.demand.adopted :=
  (State.setHealth_adopted _ _ _).trans (by simp [State.restartSilence, State.endReception])

theorem State.Event.demandRises {s t : State} (h : s.Event t) : s.demandRises t := by
  cases h with
  | input i encoder => exact (State.inputChanged_rises _ _ _ _).from rfl
  | troubled l => exact .inl ((State.setHealth_adopted _ _ _).trans (by simp [State.endReception]))
  | damaged l => exact .inl ((State.setHealth_adopted _ _ _).trans (by simp))
  | silent l => exact .inl ((State.setHealth_adopted _ _ _).trans (by simp [State.restartSilence]))
  | counted l check => exact .inl (s.countValid_adopted l)
  | delivered l tel => exact (State.deliver_delivered _ l _ tel).demandRises.from (s.countValid_adopted l)
  | sent l a => exact .inl ((State.setHealth_adopted _ _ _).trans (by simp))
  | deadline i => exact .inl rfl
  | stalled => exact .inl rfl
  | supervised => exact .of_still (s.endStep.raiseCause_still _)
  | prewarned => exact .inl rfl
  | cleared => exact .inl rfl
  | ambered => exact .inl rfl
  | recovered => exact .inl rfl
  | control encoder => exact .inl (congrArg Still.adopted (s.nextControlPeriod.controlExpiry_still encoder))
  | checked i current => exact .inl rfl
  | retried i => exact .inl rfl
  | boundary => exact .inl rfl

theorem State.conclude_adopted (before after : State) :
    (State.conclude before after).demand.adopted = after.demand.adopted := by
  have h := congrArg Still.adopted (State.conclude_still before after)
  simpa only [State.still] using h

theorem State.enterRun_adopted (s : State) (encoder : Option Word16) (ambient : Byte) :
    (s.enterRun encoder ambient).demand.adopted = s.demand.adopted := by
  have h := congrArg Still.adopted ((s.enterRun_still encoder ambient).trans (s.entering_still encoder ambient))
  simpa only [State.still] using h

theorem State.enterRun_isRunning (s : State) (encoder : Option Word16) (ambient : Byte) :
    (s.enterRun encoder ambient).isRunning = true := by
  have h := congrArg Still.stage ((s.enterRun_still encoder ambient).trans (s.entering_still encoder ambient))
  exact State.isRunning_eq_true_iff.mpr (by simpa only [State.still] using h)

theorem State.Outcome.demandRises {s t : State} {cmd : Instr} (h : s.Outcome cmd t) (stays : resets cmd = false) :
    s.demandRises t := by
  cases h with
  | same => exact .inl rfl
  | started _ _ isReset => simp [isReset] at stays
  | reset isReset => simp [isReset] at stays
  | refused => exact .inl rfl
  | loaded => exact .inl rfl
  | entered encoder ambient => exact .inl (s.enterRun_adopted encoder ambient)
  | line => exact .inl rfl
  | heard l => exact .inl (by simp)
  | begun l => exact .inl (by simp [State.beginAttempt])
  | outbid l => exact .inl (by simp)
  | beat => exact .inl rfl
  | status => exact .of_still (State.formStatus_still _)
  | sampled => exact .inl rfl
  | patterned => exact .inl rfl
  | idled => exact .inl rfl
  | event check after _ hevent =>
    have rises := hevent.demandRises
    rw [State.demandRises, State.conclude_adopted]
    exact rises

theorem resets_eq_false {c : Instr} (on : ∀ a b, c ≠ .powerOn a b) (rst : c ≠ .rstAssert)
    (off : ∀ a b, c ≠ .rstRelease a b) : resets c = false := by
  cases c with
  | powerOn a b => exact absurd rfl (on a b)
  | rstAssert => exact absurd rfl rst
  | rstRelease a b => exact absurd rfl (off a b)
  | _ => rfl

/-- Settles O59, by the outcomes of the commands. -/
theorem adoptedIdentityNeverFalls : Obligations.AdoptedIdentityNeverFalls := by
  intro c s t d h hd on rst off
  rcases (State.exec_outcome h).demandRises (resets_eq_false on rst off) with same | ⟨d', hd', exceeds⟩
  · exact ⟨d, same.trans hd, .inl rfl⟩
  · rw [hd] at exceeds
    exact ⟨d', hd', .inr exceeds⟩

/-! ### Outside RUN and HAND -/

/-- What a command leaves as it is outside RUN and HAND. -/
def State.quiet (s t : State) : Prop :=
  (s.stage = .configFault → t.stage = .configFault) ∧ t.isRunning = false ∧ t.peers = s.peers ∧ t.demand = s.demand ∧
    t.seq = s.seq ∧ t.halt = s.halt ∧ t.hand = s.hand ∧ t.linkA = s.linkA ∧ t.linkB = s.linkB ∧ t.former = s.former

theorem State.quiet_of_same {s t : State} (idle : s.isRunning = false) (stage : t.stage = s.stage)
    (h : t.peers = s.peers ∧ t.demand = s.demand ∧ t.seq = s.seq ∧ t.halt = s.halt ∧ t.hand = s.hand ∧
      t.linkA = s.linkA ∧ t.linkB = s.linkB ∧ t.former = s.former) : s.quiet t :=
  ⟨fun hstage => stage.trans hstage, by rw [State.isRunning, stage]; exact idle, h⟩

theorem State.not_configFault_of_reading {s : State} (h : s.reading = true) : s.stage ≠ .configFault := by
  intro hstage
  simp [State.reading, hstage] at h

/-- Outside RUN and HAND a command other than a reset enters RUN or leaves the station quiet. -/
theorem State.Outcome.quiet {s t : State} {cmd : Instr} (h : s.Outcome cmd t) (stays : resets cmd = false)
    (idle : s.isRunning = false) :
    s.quiet t ∨
      s.stage = .starting ∧ t.isRunning = true ∧ ∃ encoder ambient, cmd = .startTimerExpiry encoder ambient := by
  have kept : s.quiet s := State.quiet_of_same idle rfl ⟨rfl, rfl, rfl, rfl, rfl, rfl, rfl, rfl⟩
  have never (h : s.isRunning = true) : s.quiet t := absurd h (by simp [idle])
  cases h with
  | same => exact .inl kept
  | started _ _ isReset => simp [isReset] at stays
  | reset isReset => simp [isReset] at stays
  | refused => exact .inl ⟨fun _ => rfl, rfl, rfl, rfl, rfl, rfl, rfl, rfl, rfl, rfl⟩
  | loaded _ reading =>
    exact .inl ⟨fun h => absurd h (State.not_configFault_of_reading reading), idle, rfl, rfl, rfl, rfl, rfl, rfl, rfl,
      rfl⟩
  | entered encoder ambient starting _ command =>
    exact .inr ⟨starting, s.enterRun_isRunning encoder ambient, encoder, ambient, command⟩
  | line => exact .inl (State.quiet_of_same idle rfl ⟨rfl, rfl, rfl, rfl, rfl, rfl, rfl, rfl⟩)
  | heard l open_ => exact .inl (never (State.mayReceive_iff.mp open_).1)
  | begun l k tel first free =>
    simp only [State.maySend, idle, Bool.false_and] at free
    cases free
  | outbid l a running => exact .inl (never running)
  | beat f running => exact .inl (never running)
  | status f _ running => exact .inl (never running)
  | sampled a running => exact .inl (never running)
  | patterned => exact .inl (State.quiet_of_same idle rfl ⟨rfl, rfl, rfl, rfl, rfl, rfl, rfl, rfl⟩)
  | idled => exact .inl (State.quiet_of_same idle rfl ⟨rfl, rfl, rfl, rfl, rfl, rfl, rfl, rfl⟩)
  | event check after running => exact .inl (never running)

/-- Settles O60, by the outcomes of the commands. -/
theorem quietOutsideRun : Obligations.QuietOutsideRun := by
  intro c s t h idle on rst off
  rcases (State.exec_outcome h).quiet (resets_eq_false on rst off) idle with
    ⟨fault, off, peers, demand, seq, halt, hand, linkA, linkB, former⟩ | ⟨starting, running, command⟩
  · refine ⟨fault, fun running => absurd running (by simp [off]), fun _ => ⟨peers, demand, seq, halt, hand, linkA, linkB,
      former, ?_, ?_, State.generalOutputs_of_idle off⟩⟩
    · rw [State.healthy, off, Bool.false_and]
    · rw [State.flashActive, off, Bool.false_and, Bool.false_and]
  · exact ⟨fun fault => absurd (starting.symm.trans fault) (by decide), fun _ => ⟨starting, command⟩,
      fun off => absurd running (by simp [off])⟩

end Sys2Proof.Machine

/-!
PROOFS. The end of an event: what the STATUS after the reactions leaves alone, and how the prewarn hold, the clearance
evidence (O31) and the lamp commands (O44) follow.
-/

namespace Sys2Proof.Machine

/-! ### What the STATUS at the end of an event leaves alone -/

/-- What neither the lamps' following nor the forming of a STATUS touches. -/
structure Core where
  still : Still
  clearance : Clearance
  demand : DemandRecord
  seq : Sequencer
  barrier : BarrierState
  signal : SignalState
  hoist : HoistState
  level : Level
  halt : HaltRecord
  hand : HandPanel

/-- The part of a state that the reactions before the lamps settle. -/
def State.core (s : State) : Core :=
  { still := s.still, clearance := s.clearance, demand := s.demand, seq := s.seq, barrier := s.barrier,
    signal := s.signal, hoist := s.hoist, level := s.level, halt := s.halt, hand := s.hand }

theorem State.followLamps_core (s : State) : s.followLamps.core = s.core := rfl

theorem State.formStatus_core (s : State) : s.formStatus.core = s.core := by
  have hstill := s.formStatus_still
  unfold State.formStatus at hstill ⊢
  split
  · rfl
  next linked =>
    rw [if_neg linked] at hstill
    exact congrArg (fun x => { s.core with still := x }) hstill

theorem State.noteChange_core (s : State) (b : Bool) : (s.noteChange b).core = s.core := by
  rcases s.noteChange_cases b with h | ⟨-, h⟩ <;> rw [h]
  · rfl
  · exact s.formStatus_core

/-- The end of an event leaves the station as the sequencer's work and the hand move's end leave it. -/
theorem State.conclude_core (before after : State) :
    (State.conclude before after).core = (after.worked (before.reversalStopped after)).core := by
  rcases State.conclude_cases before after with h | h <;> rw [h, State.react_worked]
  · exact State.followLamps_core _
  · rw [State.noteChange_core, State.followLamps_core]

section ConcludeFields

variable (before after : State)

theorem State.conclude_seq : (State.conclude before after).seq = (after.worked (before.reversalStopped after)).seq :=
  congrArg Core.seq (State.conclude_core before after)

theorem State.conclude_level :
    (State.conclude before after).level = (after.worked (before.reversalStopped after)).level :=
  congrArg Core.level (State.conclude_core before after)

theorem State.conclude_hoist :
    (State.conclude before after).hoist = (after.worked (before.reversalStopped after)).hoist :=
  congrArg Core.hoist (State.conclude_core before after)

theorem State.conclude_signal :
    (State.conclude before after).signal = (after.worked (before.reversalStopped after)).signal :=
  congrArg Core.signal (State.conclude_core before after)

theorem State.conclude_hand : (State.conclude before after).hand = (after.worked (before.reversalStopped after)).hand :=
  congrArg Core.hand (State.conclude_core before after)

theorem State.conclude_demand : (State.conclude before after).demand = after.prepared.demand :=
  (congrArg Core.demand (State.conclude_core before after)).trans (congrArg Unmoved.demand (State.worked_unmoved _ after))

theorem State.conclude_barrier : (State.conclude before after).barrier = after.prepared.barrier :=
  (congrArg Core.barrier (State.conclude_core before after)).trans
    (congrArg Unmoved.barrier (State.worked_unmoved _ after))

theorem State.conclude_isRunning : (State.conclude before after).isRunning = after.isRunning :=
  State.isRunning_of_still (State.conclude_still before after)

end ConcludeFields

/-! ### Permissives -/

/-- A permissive other than CLEAR is formed from what no reaction touches; CLEAR from the evidence besides. -/
theorem State.permissive_congr {s t : State} (h : t.still = s.still) {p : Permissive}
    (hclear : p = .clear → t.clearance = s.clearance) : t.permissive p = s.permissive p := by
  have hrunning := State.isRunning_of_still h
  have hpeers : t.peers = s.peers := congrArg Still.peers h
  have hadopted : t.demand.adopted = s.demand.adopted := congrArg Still.adopted h
  have hrole := State.role_of_still h
  cases p
  case clear => simp only [State.permissive, hrunning, hclear rfl]
  all_goals
    simp only [State.permissive, State.formedReady, State.formed, State.flagged, hrunning, hpeers, hadopted, hrole]

/-! ### The prewarn hold -/

/-- At a BARRIER, WARN starts an absent hold, and its fall ends any (R56). -/
theorem State.followPrewarn_barrier (s : State) : s.followPrewarn.barrier =
    if s.role = .barrier then
      if s.permissive .warn = true then
        if s.barrier.hold = .absent then { hold := .running, timer := .running s.clock (1000 * s.cfg.tPrewarn) }
        else s.barrier
      else { hold := .absent, timer := .stopped }
    else s.barrier := by
  unfold State.followPrewarn
  simp only [beq_iff_eq]
  split
  · split
    · split <;> rfl
    · rfl
  · rfl

theorem State.followEvidence_barrier (s : State) : s.followEvidence.barrier = s.barrier := by
  unfold State.followEvidence
  split
  · split <;> rfl
  · rfl

theorem State.followStall_barrier (s : State) : s.followStall.barrier = s.barrier := by
  unfold State.followStall
  split
  · split <;> rfl
  · rfl

theorem State.followRecovery_barrier (s : State) : s.followRecovery.barrier = s.barrier := by
  rcases s.followRecovery_cases with h | ⟨-, h⟩ <;> rw [h]
  rfl

theorem State.followReference_barrier (s : State) : s.followReference.barrier = s.barrier := by
  unfold State.followReference
  dsimp only
  split <;> rfl

theorem State.prepared_barrier (s : State) : s.prepared.barrier = s.followPrewarn.barrier := by
  have hstill := s.followReference_still
  have hclock : s.followReference.clock = s.clock := congrArg Still.clock hstill
  rw [State.prepared, State.followRecovery_barrier, State.followStall_barrier, State.followEvidence_barrier,
    State.followPrewarn_barrier, State.followPrewarn_barrier, State.role_of_still hstill,
    State.permissive_congr hstill (p := .warn) (by simp), s.followReference_barrier, hclock, State.cfg_of_still hstill]

/-! ### The clearance evidence -/

/-- The evidence under its broken condition (R72). -/
theorem State.followEvidence_clearance (s : State) : s.followEvidence.clearance =
    if s.holdsEvidence = true ∧ s.evidenceBroken = false then
      if s.clearance.evidence = .broken then { evidence := .timing, timer := .running s.clock (1000 * s.cfg.tClear) }
      else s.clearance
    else { evidence := .broken, timer := .stopped } := by
  unfold State.followEvidence
  simp only [Bool.and_eq_true, Bool.not_eq_eq_eq_not, Bool.not_true, beq_iff_eq]
  split
  · split <;> rfl
  · rfl

theorem State.hasDetectors_of_still {s t : State} (h : t.still = s.still) : t.hasDetectors = s.hasDetectors := by
  rw [State.hasDetectors, State.hasDetectors, State.role_of_still h, State.cfg_of_still h]

theorem State.detectorsFaulted_of_still {s t : State} (h : t.still = s.still) :
    t.detectorsFaulted = s.detectorsFaulted := by
  rw [State.detectorsFaulted, State.detectorsFaulted, State.hasDetectors_of_still h, State.gi_of_still h]

theorem State.zoneOccupied_of_still {s t : State} (h : t.still = s.still) : t.zoneOccupied = s.zoneOccupied := by
  simp only [State.zoneOccupied, State.detectorEnabled, State.gi_of_still h, State.role_of_still h, State.cfg_of_still h]

theorem State.flagged_of_still {s t : State} (h : t.still = s.still) (f : DepFlag) : t.flagged f = s.flagged f := by
  have hpeers : t.peers = s.peers := congrArg Still.peers h
  rw [State.flagged, State.flagged, hpeers]

theorem State.evidenceBroken_of_still {s t : State} (h : t.still = s.still) : t.evidenceBroken = s.evidenceBroken := by
  rw [State.evidenceBroken, State.evidenceBroken, State.flagged_of_still h, State.zoneOccupied_of_still h,
    State.detectorsFaulted_of_still h]

theorem State.holdsEvidence_of_still {s t : State} (h : t.still = s.still) : t.holdsEvidence = s.holdsEvidence := by
  rw [State.holdsEvidence, State.holdsEvidence, State.role_of_still h, State.cfg_of_still h]

theorem State.detectorFault_of_still {s t : State} (h : t.still = s.still) : t.detectorFault = s.detectorFault := by
  rw [State.detectorFault, State.detectorFault, State.detectorsFaulted_of_still h, State.flagged_of_still h]

theorem State.followPrewarn_clearance (s : State) : s.followPrewarn.clearance = s.clearance := by
  unfold State.followPrewarn
  split
  · split
    · split <;> rfl
    · rfl
  · rfl

theorem State.followReference_clearance (s : State) : s.followReference.clearance = s.clearance := by
  unfold State.followReference
  dsimp only
  split <;> rfl

/-- The evidence at the end of an event follows the state the event leaves. -/
theorem State.conclude_evidence (before after : State) :
    (State.conclude before after).clearance = after.followEvidence.clearance := by
  have hstill : after.followReference.followPrewarn.still = after.still := by simp
  have hclock : after.followReference.followPrewarn.clock = after.clock := congrArg Still.clock hstill
  rw [State.conclude_clearance, State.followEvidence_clearance, State.followEvidence_clearance,
    State.holdsEvidence_of_still hstill, State.evidenceBroken_of_still hstill, State.followPrewarn_clearance,
    State.followReference_clearance, hclock, State.cfg_of_still hstill]

/-! ### What the evidence is formed from -/

theorem Role.hasDetectorInputs_iff (r : Role) : r.hasDetectorInputs = true ↔ r = .barrier ∨ r = .signal := by
  cases r <;> simp [Role.hasDetectorInputs]

theorem State.detectorEnabled_iff (s : State) (k : Nat) :
    s.detectorEnabled k = true ↔ (s.role = .barrier ∨ s.role = .signal) ∧ s.cfg.detectorMask.getLsbD k = true := by
  rw [State.detectorEnabled, Bool.and_eq_true, Role.hasDetectorInputs_iff]

theorem State.hasDetectors_iff (s : State) : s.hasDetectors = true ↔ ∃ k : Fin 4, s.detectorEnabled k = true := by
  have nonzero : s.cfg.detectorMask ≠ 0 ↔ ∃ k : Fin 4, s.cfg.detectorMask.getLsbD k = true := by
    rw [← not_iff_not, not_not, not_exists]
    constructor
    · rintro h k
      simp [h]
    · intro h
      exact BitVec.eq_of_getLsbD_eq fun i hi => by simpa using h ⟨i, hi⟩
  simp only [State.hasDetectors, Bool.and_eq_true, bne_iff_ne, nonzero, State.detectorEnabled]
  exact exists_and_left.symm

theorem State.detectorsFaulted_iff (s : State) :
    s.detectorsFaulted = true ↔ (∃ k : Fin 4, s.detectorEnabled k = true) ∧ s.gi 12 = true := by
  rw [State.detectorsFaulted, Bool.and_eq_true, State.hasDetectors_iff]

theorem State.zoneOccupied_iff (s : State) : s.zoneOccupied = true ↔
    s.detectorEnabled 0 = true ∧ s.gi 8 = true ∨ s.detectorEnabled 1 = true ∧ s.gi 9 = true ∨
      s.detectorEnabled 2 = true ∧ s.gi 10 = true ∨ s.detectorEnabled 3 = true ∧ s.gi 11 = true := by
  simp only [State.zoneOccupied, Bool.or_eq_true, Bool.and_eq_true, or_assoc]

theorem State.holdsEvidence_iff (s : State) :
    s.holdsEvidence = true ↔ s.role = .barrier ∧ s.cfg.barrierKind = .exit ∨ s.role = .hoist := by
  simp [State.holdsEvidence]

theorem PeerEntry.clearZone_iff (p : PeerEntry) : p.clearZone = true ↔
    p.state = .tracked ∧ ∃ r, p.report = some r ∧ r.body.hand = false ∧ r.body.zone = some 0 := by
  rw [PeerEntry.clearZone, PeerEntry.contributes_iff]
  simp only [beq_iff_eq]

theorem State.evidenceBroken_iff (s : State) : s.evidenceBroken = true ↔
    (∀ i : Fin 16, ¬s.peers[i].has .detect = true) ∨
      (∃ i : Fin 16, s.peers[i].has .detect = true ∧ ¬s.peers[i].clearZone = true) ∨ s.zoneOccupied = true ∨
      s.detectorsFaulted = true := by
  rw [State.evidenceBroken, Bool.or_eq_true, Bool.or_eq_true, Bool.or_eq_true, State.flagged_isEmpty_iff,
    Bool.not_eq_true', ← Bool.not_eq_true, State.flagged_all_iff, or_assoc, or_assoc]
  simp only [not_forall, exists_prop]

theorem State.detectorFault_iff (s : State) : s.detectorFault = true ↔ s.detectorsFaulted = true ∨
    ∃ i : Fin 16, s.peers[i].has .detect = true ∧ s.peers[i].state = .tracked ∧
      ∃ r, s.peers[i].report = some r ∧ r.body.zone = some 2 := by
  rw [State.detectorFault, Bool.or_eq_true, List.any_eq_true]
  refine or_congr_right ⟨?_, ?_⟩
  · rintro ⟨p, hmem, h⟩
    obtain ⟨i, hp, hflag⟩ := (s.mem_flagged_iff .detect _).mp hmem
    rw [Bool.and_eq_true, beq_iff_eq] at h
    rw [hp] at hflag
    refine ⟨i, by rw [hp]; exact hflag, by rw [hp]; exact h.1, ?_⟩
    rw [hp]
    cases hr : p.report with
    | none => simp [PeerEntry.copy, hr] at h
    | some r => exact ⟨r, rfl, by simpa [PeerEntry.copy, hr] using h.2⟩
  · rintro ⟨i, hflag, htracked, r, hr, hzone⟩
    refine ⟨_, (s.mem_flagged_iff .detect _).mpr ⟨i, rfl, hflag⟩, ?_⟩
    rw [Bool.and_eq_true, beq_iff_eq, PeerEntry.copy, hr]
    exact ⟨htracked, beq_iff_eq.mpr hzone⟩

/-- Settles O31, from the following of the hold and of the evidence and from what each is formed from. -/
theorem warnAndEvidenceAreFollowed : Obligations.WarnAndEvidenceAreFollowed := by
  intro before s running t detects zone enabled occupied faulted broken held
  have hfaulted : s.detectorsFaulted = true ↔ faulted := by
    simp only [State.detectorsFaulted_iff, State.detectorEnabled_iff, faulted, enabled]
  have hbroken : s.evidenceBroken = true ↔ broken := by
    simp only [State.evidenceBroken_iff, hfaulted, State.zoneOccupied_iff, State.detectorEnabled_iff,
      PeerEntry.clearZone_iff, PeerEntry.has_iff, DepFlag.bit, broken, occupied, enabled, detects, zone]
    rfl
  have hheld : s.holdsEvidence = true ↔ held := s.holdsEvidence_iff
  have hclearance : t.clearance = s.followEvidence.clearance := State.conclude_evidence before s
  have hbarrier : t.barrier = s.followPrewarn.barrier := (State.conclude_barrier before s).trans s.prepared_barrier
  rw [State.followEvidence_clearance] at hclearance
  simp only [← Bool.not_eq_true, hbroken, hheld] at hclearance
  have hrunning : t.isRunning = true := (State.conclude_isRunning before s).trans running
  have hstill : t.still = s.still := State.conclude_still before s
  clear_value t
  refine ⟨fun role => ?_, fun h => ?_, fun h h' h'' => ?_, fun h h' h'' => ?_, ?_, ?_⟩
  · rw [State.followPrewarn_barrier, if_pos role] at hbarrier
    exact ⟨fun warn absent => by rw [hbarrier, if_pos warn, if_pos absent],
      fun warn present => by rw [hbarrier, if_pos warn, if_neg present],
      fun warn => by rw [hbarrier, if_neg (by simp [warn])]⟩
  · exact hclearance.trans (if_neg fun ⟨hheld, hwhole⟩ => h.elim (· hheld) hwhole)
  · exact hclearance.trans ((if_pos ⟨h, h'⟩).trans (if_pos h''))
  · exact hclearance.trans ((if_pos ⟨h, h'⟩).trans (if_neg h''))
  · simp only [State.permissive, hrunning, Bool.true_and, beq_iff_eq]
  · have hdetector : t.hasFault .detector = s.detectorFault := by
      rw [State.hasFault, hrunning, Bool.true_and]
      exact State.detectorFault_of_still hstill
    rw [hdetector, State.detectorFault_iff, hfaulted]
    simp only [PeerEntry.has_iff, DepFlag.bit, detects, zone]

end Sys2Proof.Machine

/-!
PROOFS. The lamp outputs at the end of an event: their commands (O44), the timed lamp events (O43), the checks (O41) and
the retries (O42).
-/

namespace Sys2Proof.Machine

/-! ### Aspects -/

/-- The road aspect by role, recovery, halt and journal (R66, R67, R121). -/
theorem State.roadAspect_eq (s : State) : s.roadAspect =
    if s.role = .desk ∨ s.seq.journal = [] ∧ ¬(s.role = .signal ∧ s.signal.recovering = true) then .dark
    else if s.role = .signal ∧ ¬(s.role = .signal ∧ s.signal.recovering = true) ∧ s.halted = false ∧
      ∀ e ∈ s.seq.journal, e.step ≠ .red then .amber
    else .redFlash := by
  have hred : (s.seq.journal.any (·.step == .red) = true) ↔ ¬∀ e ∈ s.seq.journal, e.step ≠ .red := by simp
  have hite (p : Prop) [Decidable p] :
      (if ¬p then RoadAspect.redFlash else .amber) = if p then .amber else .redFlash := ite_not ..
  cases hrole : s.role
  case signal =>
    simp only [State.roadAspect, hrole, hred, hite, List.isEmpty_iff]
    cases s.signal.recovering <;> cases s.halted <;> by_cases hj : s.seq.journal = [] <;> simp [hj]
  all_goals by_cases hj : s.seq.journal = [] <;> simp [State.roadAspect, hrole, hj]

theorem State.topDone_iff (s : State) (k : ForwardStep) : s.topDone k = true ↔
    s.seq.journal.head?.map (·.step) = some k ∧ s.seq.journal.head?.map (·.state) = some .done := by
  cases hj : s.seq.journal with
  | nil => simp [State.topDone, hj]
  | cons e rest => simp [State.topDone, hj]

/-- The marine aspect is GREEN with GREEN in progress, or DONE between steps, at a SIGNAL station that is neither in
recovery nor halted (R90, R121). -/
theorem State.marineAspect_green_iff (s : State) : s.marineAspect = .green ↔
    s.role = .signal ∧ ¬(s.role = .signal ∧ s.signal.recovering = true) ∧ s.halted = false ∧
      (s.doing .green .forward = true ∨ s.seq.journal.head?.map (·.step) = some .green ∧
        s.seq.journal.head?.map (·.state) = some .done ∧ s.seq.step = none) := by
  have hcond : s.marineAspect = .green ↔ (s.role == .signal && !s.signal.recovering && !s.halted &&
      (s.doing .green .forward || (s.topDone .green && s.seq.step.isNone))) = true := by
    unfold State.marineAspect
    split
    next h => simp [h]
    next h => simp [h]
  rw [hcond]
  simp only [Bool.and_eq_true, Bool.or_eq_true, beq_iff_eq, Bool.not_eq_eq_eq_not, Bool.not_true, State.topDone_iff,
    Option.isNone_iff_eq_none]
  cases hrole : s.role <;> simp [and_assoc]

theorem State.marineAspect_red_iff (s : State) : s.marineAspect = .red ↔ ¬s.marineAspect = .green := by
  cases s.marineAspect <;> simp

/-! ### Commands -/

/-- An output is given a command while a condition holds, OFF otherwise. -/
theorem steadyIf_gives {b : Bool} {p : Prop} (h : b = true ↔ p) :
    (p → steadyIf b = .steady) ∧ (¬p → steadyIf b = .off) := by
  cases b <;> simp_all [steadyIf]

theorem ite_gives {b : Bool} {p : Prop} (c : Command) (h : b = true ↔ p) :
    (p → (if b then c else .off) = c) ∧ (¬p → (if b then c else .off) = .off) := by
  cases b <;> simp_all

theorem StationConfig.failSafeCommand_eq (c : StationConfig) (o : OutputConfig) : c.failSafeCommand o =
    if o.function = .noFunction ∨ o.function = .marineGreen then .off
    else if o.failSafeOne = true then c.failSafe1 else c.failSafe0 := by
  unfold StationConfig.failSafeCommand
  cases o.function <;> simp

theorem State.somePeerUntracked_iff (s : State) : s.somePeerUntracked = true ↔
    ∃ j : Fin 16, s.peers[j].state ≠ .vacant ∧ s.peers[j].state ≠ .tracked := by
  rw [State.somePeerUntracked, List.any_eq_true]
  simp only [mem_toList_iff, Bool.and_eq_true, bne_iff_ne]
  exact ⟨fun ⟨_, ⟨j, hj⟩, h⟩ => ⟨j, hj ▸ h⟩, fun ⟨j, h⟩ => ⟨_, ⟨j, rfl⟩, h⟩⟩

theorem State.permissive_agreed_of_none {s : State} (h : s.demand.adopted = none) : s.permissive .agreed = false := by
  simp [State.permissive, h]

/-- After an event each output has the command that the state gives it (R129). -/
theorem State.Shows.command {s t : State} (h : s.Shows t) (i : Fin 12) :
    t.lamps.outputs[i].command = t.outputCommand s.cfg.outputs[i] := by
  rw [h.2 i, (Output.follow_command_lit _ _ _ _ _ _).1]

theorem Command.flashing_iff (c : Command) : c.flashing = true ↔ c = .flashA ∨ c = .flashB := by
  cases c <;> simp [Command.flashing]

/-- The station is flash active while some output follows a flashing command and the links are not both FAILED (R133). -/
theorem State.flashActive_iff {s : State} (running : s.isRunning = true)
    (h : ∀ i : Fin 12, s.lamps.outputs[i].command = s.outputCommand s.cfg.outputs[i]) : s.flashActive = true ↔
    s.bothFailed = false ∧
      ∃ j : Fin 12, s.lamps.outputs[j].command = .flashA ∨ s.lamps.outputs[j].command = .flashB := by
  simp only [State.flashActive, running, Bool.true_and, Bool.and_eq_true, Bool.not_eq_true', List.any_eq_true,
    mem_toList_iff]
  refine and_congr_right fun linked => ?_
  simp only [h, State.outputCommand_of_working linked, ← Command.flashing_iff]
  exact ⟨fun ⟨_, ⟨j, hj⟩, hflash⟩ => ⟨j, hj ▸ hflash⟩, fun ⟨j, hflash⟩ => ⟨_, ⟨j, rfl⟩, hflash⟩⟩

/-- Settles O44, function by function. -/
theorem outputCommandsFollowFunctions : Obligations.OutputCommandsFollowFunctions := by
  intro before s i running t o recovering road opened green gives isolated
  have hshows : s.Shows t := State.conclude_shows before s
  have hrunning : t.isRunning = true := (State.conclude_isRunning before s).trans running
  have hcfg : t.cfg = s.cfg := State.cfg_of_still hshows.1
  have hcommand : t.lamps.outputs[i].command = t.outputCommand o := hshows.command i
  have hisolated : t.bothFailed = true ↔ isolated := Iff.of_eq (Bool.and_eq_true _ _)
  have hroad : t.roadAspect = road := t.roadAspect_eq
  have hgreen : t.marineAspect = .green ↔ green := t.marineAspect_green_iff
  clear_value t
  refine ⟨fun h => ?_, fun h => ?_, ?_⟩
  · rw [hcommand, State.outputCommand, if_pos (hisolated.mpr h), hcfg]
    exact s.cfg.failSafeCommand_eq o
  · rw [State.outputCommand_of_working (Bool.eq_false_iff.mpr (mt hisolated.mp h))] at hcommand
    simp only [gives, hcommand]
    refine ⟨fun hf => ?_, fun hf => ?_, fun hf => ?_, fun hf => ?_, fun hf => ?_, fun hf => ?_, fun hf => ?_,
      fun hf => ?_, fun hf => ?_, fun hf => ?_, fun hf => ?_, fun hf => ?_, fun hf => ?_, fun hf => ?_⟩
    all_goals simp only [hf, State.functionCommand]
    · exact steadyIf_gives (by rw [beq_iff_eq, hroad])
    · exact ite_gives _ (by rw [beq_iff_eq, hroad])
    · exact ite_gives _ (by rw [beq_iff_eq, hroad])
    · exact ite_gives _ (by simp)
    · exact steadyIf_gives (by rw [beq_iff_eq, State.marineAspect_red_iff, hgreen])
    · exact steadyIf_gives (by rw [Bool.and_eq_true, beq_iff_eq, hgreen])
    · exact steadyIf_gives (by simp)
    · cases hadopted : t.demand.adopted with
      | none => simp [State.permissive_agreed_of_none hadopted]
      | some d => simp
    · exact steadyIf_gives Iff.rfl
    · exact steadyIf_gives Iff.rfl
    · exact steadyIf_gives Iff.rfl
    · exact steadyIf_gives Iff.rfl
    · exact steadyIf_gives t.somePeerUntracked_iff
  · rw [State.flashActive_iff hrunning fun j => by rw [hcfg]; exact hshows.command j, ← Bool.not_eq_true, hisolated]

end Sys2Proof.Machine

/-!
PROOFS. One lamp output through an event: the timed lamp events (O43), the checks (O41) and the retries (O42).
-/

namespace Sys2Proof.Machine

/-! ### What the following of an output touches -/

theorem Output.followInterval_eq (now : Time) (c : StationConfig) (was : Bool) (old : Command) (o : Output) :
    ∃ check, o.followInterval now c was old = { o with check := check } := by
  unfold Output.followInterval
  split
  · exact ⟨_, rfl⟩
  · split
    · exact ⟨_, rfl⟩
    · split
      · exact ⟨_, rfl⟩
      · split
        · exact ⟨_, rfl⟩
        · split <;> exact ⟨_, rfl⟩

theorem Output.followInterval_of_short {o : Output} (h : o.proof = .short) (now : Time) (c : StationConfig) (was : Bool)
    (old : Command) : o.followInterval now c was old = o := by
  simp [Output.followInterval, h]

theorem Output.followRetry_eq (now : Time) (c : StationConfig) (begins : Bool) (o : Output) :
    ∃ retrying due check, o.followRetry now c begins = { o with retrying := retrying, retryDue := due, check := check } := by
  unfold Output.followRetry
  split
  · split
    · split <;> exact ⟨_, _, _, rfl⟩
    · split <;> exact ⟨_, _, _, rfl⟩
  · exact ⟨_, _, _, rfl⟩

theorem Output.followRetry_of_not_short {o : Output} (h : o.proof ≠ .short) (now : Time) (c : StationConfig)
    (begins : Bool) : o.followRetry now c begins = o := by
  simp [Output.followRetry, h]

/-- The fields of an output that no following touches. -/
theorem Output.shown_kept (cmd : Command) (lit : Bool) (o : Output) :
    (o.shown cmd lit).pwm = o.pwm ∧ (o.shown cmd lit).pwmDuty = o.pwmDuty ∧ (o.shown cmd lit).duty = o.duty ∧
      (o.shown cmd lit).lastCurrent = o.lastCurrent := by
  unfold Output.shown Output.followCommand
  dsimp only
  split
  · split <;> exact ⟨rfl, rfl, rfl, rfl⟩
  · split <;> exact ⟨rfl, rfl, rfl, rfl⟩

/-- A commanded output that is judged keeps its judgement under another command (R143). -/
theorem Output.shown_of_commanded {cmd : Command} (hcmd : cmd ≠ .off) (lit : Bool) {o : Output} (h : o.proof ≠ .off) :
    o.shown cmd lit = { o with command := cmd, lit := lit } := by
  simp [Output.shown, Output.followCommand, hcmd, h]

/-- Before its check timer follows, an output that becomes driven starts a PWM period, and one that stays driven keeps
its period (R139). -/
theorem Output.retried_pwm (now : Time) (c : StationConfig) (cmd : Command) (lit : Bool) (o : Output) :
    let o' := o.retried now c cmd lit
    o'.lastCurrent = o.lastCurrent ∧ (o'.driven = true →
      (o.driven = true → o'.pwm = o.pwm ∧ o'.pwmDuty = o.pwmDuty) ∧
      (o.driven = false → o'.pwm = 0 ∧ o'.pwmDuty = if o'.retrying then c.retryDuty else o'.duty)) := by
  intro o'
  obtain ⟨retrying, due, check, hretry⟩ := Output.followRetry_eq now c (lit && !o.lit) (o.shown cmd lit)
  obtain ⟨hpwm, hduty, -, hcurrent⟩ := o.shown_kept cmd lit
  have ho' : o' = ((o.shown cmd lit).followRetry now c (lit && !o.lit)).followDriven c o.driven := rfl
  rw [hretry, Output.followDriven] at ho'
  clear_value o'
  split at ho'
  next h =>
    rw [Bool.and_eq_true, Bool.not_eq_true'] at h
    subst ho'
    exact ⟨hcurrent, fun _ => ⟨fun hdriven => absurd (h.2.symm.trans hdriven) (by decide), fun _ => ⟨rfl, rfl⟩⟩⟩
  next h =>
    subst ho'
    refine ⟨hcurrent, fun hdriven => ⟨fun _ => ⟨hpwm, hduty⟩, fun hwas => absurd ?_ h⟩⟩
    rw [hwas, Bool.not_false, Bool.and_true]
    exact hdriven

/-- A followed output is the retried one but for its check timer. -/
theorem Output.follow_eq (now : Time) (c : StationConfig) (cfg : OutputConfig) (cmd : Command) (lit : Bool) (o : Output) :
    ∃ check, o.follow now c cfg cmd lit = { o.retried now c cmd lit with check := check } := by
  cases h : cfg.diagnostics with
  | true =>
    rw [Output.follow_of_diagnostics h]
    exact Output.followInterval_eq _ _ _ _ _
  | false =>
    rw [Output.follow_of_no_diagnostics h]
    exact ⟨_, rfl⟩

/-- A followed output that is SHORT is the retried one. -/
theorem Output.follow_of_short (now : Time) (c : StationConfig) (cfg : OutputConfig) (cmd : Command) (lit : Bool)
    {o : Output} (h : (o.retried now c cmd lit).proof = .short) :
    o.follow now c cfg cmd lit = o.retried now c cmd lit := by
  cases hd : cfg.diagnostics with
  | true => rw [Output.follow_of_diagnostics hd, Output.followInterval_of_short h]
  | false => rw [Output.follow_of_no_diagnostics hd]

theorem Output.follow_pwm (now : Time) (c : StationConfig) (cfg : OutputConfig) (cmd : Command) (lit : Bool)
    (o : Output) :
    let o' := o.follow now c cfg cmd lit
    o'.lastCurrent = o.lastCurrent ∧ (o'.driven = true →
      (o.driven = true → o'.pwm = o.pwm ∧ o'.pwmDuty = o.pwmDuty) ∧
      (o.driven = false → o'.pwm = 0 ∧ o'.pwmDuty = if o'.retrying then c.retryDuty else o'.duty)) := by
  intro o'
  obtain ⟨check, h⟩ := o.follow_eq now c cfg cmd lit
  have ho' : o' = { o.retried now c cmd lit with check := check } := h
  rw [ho']
  exact o.retried_pwm now c cmd lit

/-! ### The timed lamp events -/

theorem StationConfig.dutyFor_eq (c : StationConfig) (o : OutputConfig) (a : Nat) : c.dutyFor o a =
    (let f := if o.diagnostics then max c.dimFloor 32 else c.dimFloor
     if o.dim = false ∨ c.dimCurve = .none then 255
     else if c.dimCurve = .linear then f + (255 - f) * a / 255 else f + (255 - f) * a * a / 65025) := by
  unfold StationConfig.dutyFor StationConfig.floorFor
  cases o.dim <;> cases c.dimCurve <;> simp

theorem Timer.due_running {start now : Time} {n : Nat} : (Timer.running start n).due now = true ↔ n ≤ since now start :=
  decide_eq_true_iff

theorem StationConfig.pwmPeriod_eq {c : StationConfig} (h : c.pwmCode ≤ 3) : c.pwmPeriod =
    if c.pwmCode = 0 then 5000 else if c.pwmCode = 1 then 2500 else if c.pwmCode = 2 then 1250 else 625 := by
  unfold StationConfig.pwmPeriod
  have : c.pwmCode = 0 ∨ c.pwmCode = 1 ∨ c.pwmCode = 2 ∨ c.pwmCode = 3 := by omega
  rcases this with h | h | h | h <;> rw [h] <;> decide

theorem StationConfig.pwmPeriod_pos {c : StationConfig} (h : c.pwmCode ≤ 3) : 0 < c.pwmPeriod := by
  rw [StationConfig.pwmPeriod_eq h]
  split_ifs <;> decide

theorem Output.dutyAt_eq (c : StationConfig) (o : Output) (u : Nat) : o.dutyAt c u =
    if o.pwm + u < c.pwmPeriod then o.pwmDuty else if o.retrying then c.retryDuty else o.duty := by
  unfold Output.dutyAt
  by_cases h : c.pwmPeriod ≤ o.pwm + u
  · rw [if_pos h, if_neg (by omega)]
    rfl
  · rw [if_neg h, if_pos (by omega)]

theorem Output.conducts_iff (c : StationConfig) (o : Output) (u : Nat) :
    o.conducts c u = true ↔ o.driven = true ∧ (o.pwm + u) % c.pwmPeriod * 255 < o.dutyAt c u * c.pwmPeriod := by
  rw [Output.conducts, Bool.and_eq_true, decide_eq_true_iff]

theorem Command.lit_iff (c : Command) (phase period : Nat) : c.lit phase period = true ↔
    c = .steady ∨ c = .flashA ∧ phase < period / 2 ∨ c = .flashB ∧ period / 2 ≤ phase := by
  cases c <;> simp [Command.lit]

theorem State.Shows.lit {s t : State} (h : s.Shows t) (i : Fin 12) :
    t.lamps.outputs[i].lit = t.lamps.outputs[i].command.lit s.flashPhase s.cfg.flashPeriod := by
  rw [h.command, h.2 i, (Output.follow_command_lit _ _ _ _ _ _).2]

/-- Settles O43: the sample and the default phase by their definitions, the flash halves by what the outputs show. -/
theorem lampTimersFollowPhase : Obligations.LampTimersFollowPhase := by
  intro s
  refine ⟨fun level start running htimer elapsed => ?_, fun running => ?_, fun o u hcode => ?_, fun idle hpattern => ?_⟩
  · have due : (Timer.running start 500).due s.clock = true := Timer.due_running.mpr elapsed
    simp only [exec, execAmbientSample, htimer, running, due, Bool.and_self, if_true, State.sampleAmbient,
      StationConfig.dutyFor_eq, Timer.nextBeat]
    rfl
  · have hshows : s.Shows (State.conclude s s) := State.conclude_shows s s
    refine ⟨_, congrArg Host.Outcome.next (if_pos running), hshows.1, fun i => ⟨hshows.command i, ?_, ?_⟩⟩
    · rw [hshows.lit, Command.lit_iff]
    · rw [hshows.2 i]
      exact (Output.follow_pwm _ _ _ _ _ _).2
  · intro period duty
    have hperiod : s.cfg.pwmPeriod = period := StationConfig.pwmPeriod_eq hcode
    have hpos : 0 < period := hperiod ▸ StationConfig.pwmPeriod_pos hcode
    have hduty : o.dutyAt s.cfg u = duty := by rw [Output.dutyAt_eq, hperiod]
    have hiff : o.conducts s.cfg u = true ↔ o.driven = true ∧ (o.pwm + u) % period * 255 < duty * period := by
      rw [Output.conducts_iff, hperiod, hduty]
    clear_value period duty
    refine ⟨hiff, fun driven full => hiff.mpr ⟨driven, ?_⟩, fun none => Bool.eq_false_iff.mpr fun h => ?_⟩
    · have := Nat.mod_lt (o.pwm + u) hpos
      rw [full]
      omega
    · have := (hiff.mp h).2
      simp [none] at this
  · have lit : s.lamps.pattern.lit s.lamps.defaultPhase Config.defaultPeriod =
        decide (s.lamps.pattern = .steady ∨ s.lamps.pattern = .flashA ∧ s.lamps.defaultPhase < 500) := by
      rw [Bool.eq_iff_iff, Command.lit_iff, decide_eq_true_iff]
      simp [hpattern, Config.defaultPeriod]
    have exec_eq : exec .defaultPhaseBoundary s = .next { s with lamps := s.lamps.followDefault } := by
      rcases idle with h | h <;> simp only [exec, execDefaultPhaseBoundary, h]
    rw [exec_eq, Lamps.followDefault, lit]

/-! ### A check -/

theorem State.setOutput_get (s : State) (i : Fin 12) (o : Output) : (s.setOutput i o).lamps.outputs[i] = o := by
  simp

theorem State.setOutput_get_ne (s : State) {i j : Fin 12} (o : Output) (h : j ≠ i) :
    (s.setOutput i o).lamps.outputs[j] = s.lamps.outputs[j] := by
  have hne : i.val ≠ j.val := fun hij => h (Fin.ext hij.symm)
  simp [State.setOutput, hne]

/-- What follows a judgement at a commanded output. -/
theorem Output.follow_of_judged {cmd : Command} (hcmd : cmd ≠ .off) (now : Time) (c : StationConfig) (cfg : OutputConfig)
    (lit : Bool) {o : Output} (hjudged : o.proof ≠ .off) :
    (o.proof = .short → o.retrying = false → o.retryDue = false →
      let o' := o.follow now c cfg cmd lit
      o'.proof = .short ∧ o'.retry = o.retry ∧ o'.driven = false) ∧
    (o.proof ≠ .short → (o.follow now c cfg cmd lit).proof = o.proof ∧
      (o.retrying = false → o.pwmDuty = o.duty → (o.follow now c cfg cmd lit).pwmDuty = o.duty)) := by
  have hshown := Output.shown_of_commanded hcmd lit hjudged
  refine ⟨fun hshort hretrying hdue => ?_, fun hshort => ?_⟩
  · have hretried : o.retried now c cmd lit = { o with command := cmd, lit := lit } := by
      simp [Output.retried, hshown, Output.followRetry, hshort, hretrying, hdue, Output.followDriven, Output.driven,
        Output.heldOff]
    have hfollow := Output.follow_of_short (o := o) now c cfg cmd lit (by rw [hretried]; exact hshort)
    rw [hretried] at hfollow
    intro o'
    have ho' : o' = { o with command := cmd, lit := lit } := hfollow
    rw [ho']
    exact ⟨hshort, rfl, by simp [Output.driven, Output.heldOff, hshort, hretrying]⟩
  · have hretried : o.retried now c cmd lit =
        ({ o with command := cmd, lit := lit } : Output).followDriven c o.driven := by
      rw [Output.retried, hshown, Output.followRetry_of_not_short (o := { o with command := cmd, lit := lit }) hshort]
    obtain ⟨check, h⟩ := o.follow_eq now c cfg cmd lit
    rw [h, hretried]
    unfold Output.followDriven
    split
    · exact ⟨rfl, fun hretrying _ => by simp [Output.dutyInPlace, hretrying]⟩
    · exact ⟨rfl, fun _ hduty => hduty⟩

theorem State.checkOutput_get (s : State) (i : Fin 12) (current : Nat) :
    (s.checkOutput i current).lamps.outputs[i] =
      if s.lamps.outputs[i].retrying then s.lamps.outputs[i].retryCheck s.clock s.cfg s.cfg.outputs[i] current
      else s.lamps.outputs[i].check_ s.clock s.cfg s.cfg.outputs[i] current := by
  rw [State.checkOutput, State.setOutput_get]

theorem Output.judged_lastCurrent (now : Time) (c : StationConfig) (cfg : OutputConfig) (current : Nat) (o : Output) :
    (o.retryCheck now c cfg current).lastCurrent = current ∧ (o.check_ now c cfg current).lastCurrent = current := by
  unfold Output.retryCheck Output.check_
  constructor <;> split <;> rfl

/-- An output after its check at an event, its command not OFF (R145 to R147). -/
theorem Output.follow_of_check {cmd : Command} (hcmd : cmd ≠ .off) (now : Time) (c : StationConfig) (cfg : OutputConfig)
    (lit : Bool) (current : Nat) (o : Output) :
    let q := if o.retrying then o.retryCheck now c cfg current else o.check_ now c cfg current
    let o' := q.follow now c cfg cmd lit
    (c.selectedThreshold cfg < current → o.retrying = false ∨ o.proof = .short →
      o'.proof = .short ∧ o'.retry = .running now (1000 * c.retryTime) ∧ o'.driven = false) ∧
    (¬c.selectedThreshold cfg < current → o.retrying = false →
      o'.proof = if current < c.openThreshold then .openCircuit else .proven) ∧
    (¬c.selectedThreshold cfg < current → o.retrying = true → o'.proof = .unproven ∧ o'.pwmDuty = o.duty) := by
  intro q o'
  have judged (hq : q.proof ≠ .off) := Output.follow_of_judged hcmd now c cfg lit hq
  have hq : q = if o.retrying then o.retryCheck now c cfg current else o.check_ now c cfg current := rfl
  clear_value q
  refine ⟨fun hshort hwas => ?_, fun hpass hretrying => ?_, fun hpass hretrying => ?_⟩
  · have fields : q.proof = .short ∧ q.retrying = false ∧ q.retryDue = false ∧
        q.retry = .running now (1000 * c.retryTime) := by
      rw [hq, Nat.mul_comm]
      split
      next h =>
        rw [Output.retryCheck, if_pos hshort]
        exact ⟨hwas.resolve_left (by simp [h]), rfl, rfl, rfl⟩
      next =>
        rw [Output.check_, if_pos hshort]
        exact ⟨rfl, rfl, rfl, rfl⟩
    obtain ⟨hproof, hretrying, hdue, hretry⟩ := fields
    rw [← hretry]
    exact (judged (by simp [hproof])).1 hproof hretrying hdue
  · have hproof : q.proof = if current < c.openThreshold then .openCircuit else .proven := by
      rw [hq, if_neg (by simp [hretrying]), Output.check_, if_neg hpass]
    have notShort : q.proof ≠ .short ∧ q.proof ≠ .off := by
      rw [hproof]
      split <;> decide
    rw [← hproof]
    exact ((judged notShort.2).2 notShort.1).1
  · have fields : q.proof = .unproven ∧ q.retrying = false ∧ q.pwmDuty = q.duty ∧ q.duty = o.duty := by
      rw [hq, if_pos hretrying, Output.retryCheck, if_neg hpass]
      exact ⟨rfl, rfl, rfl, rfl⟩
    obtain ⟨hproof, hends, hpwm, hduty⟩ := fields
    have kept := (judged (by simp [hproof])).2 (by simp [hproof])
    rw [← hproof, ← hduty]
    exact ⟨kept.1, kept.2 hends hpwm⟩

/-- Settles O41: a check judges the output, and what follows at the event leaves the judgement while it is commanded. -/
theorem checkJudgesCurrent : Obligations.CheckJudgesCurrent := by
  intro s i current running due o k short
  have hshows := State.conclude_shows s (s.checkOutput i current.val)
  have hstill : (s.checkOutput i current.val).still = s.still := rfl
  refine ⟨State.conclude s (s.checkOutput i current.val), ?_, hshows.1.trans hstill, ?_, fun j hj => ?_, fun hcmd => ?_⟩
  · simp only [exec, execCheckTimerExpiry, running, due, Bool.and_self, if_true]
  · rw [hshows.2 i, (Output.follow_pwm _ _ _ _ _ _).1, State.checkOutput_get]
    split
    · exact (Output.judged_lastCurrent _ _ _ _ _).1
    · exact (Output.judged_lastCurrent _ _ _ _ _).2
  · rw [hshows.2 j, (Output.follow_pwm _ _ _ _ _ _).1, State.checkOutput, State.setOutput_get_ne _ _ hj]
  · rw [hshows.command] at hcmd
    rw [hshows.2 i, State.checkOutput_get]
    exact Output.follow_of_check hcmd s.clock s.cfg k _ current.val o

/-! ### A retry -/

theorem Output.retryFallsDue_of_off {o : Output} (hshort : o.proof = .short) (hcmd : o.command = .off) (now : Time)
    (c : StationConfig) : o.retryFallsDue now c =
      { o with retry := .stopped, proof := .off, retryDue := false, retrying := false, check := .stopped } := by
  simp [Output.retryFallsDue, hshort, hcmd]

/-- A retry taken at once under STEADY, at an output held off until then. -/
theorem Output.retryFallsDue_of_steady {o : Output} (hshort : o.proof = .short) (hretrying : o.retrying = false)
    (hcmd : o.command = .steady) (now : Time) (c : StationConfig) : o.retryFallsDue now c =
      { o with retry := .stopped, retrying := true, check := .running now c.blanking,
               pwm := if o.lit then 0 else o.pwm, pwmDuty := if o.lit then c.retryDuty else o.pwmDuty } := by
  cases hlit : o.lit <;>
    simp [Output.retryFallsDue, hshort, hretrying, hcmd, hlit, Output.followDriven, Output.driven, Output.heldOff,
      Output.dutyInPlace]

theorem Output.retryFallsDue_of_flashing {o : Output} (hshort : o.proof = .short) (hcmd : o.command.flashing = true)
    (now : Time) (c : StationConfig) : o.retryFallsDue now c = { o with retry := .stopped, retryDue := true } := by
  rcases (Command.flashing_iff _).mp hcmd with h | h <;> simp [Output.retryFallsDue, hshort, h]

/-- A due retry of a flashing output at an event: taken if the lit interval begins there (R147). -/
theorem Output.retried_of_due {cmd : Command} (hcmd : cmd.flashing = true) (now : Time) (c : StationConfig) (lit : Bool)
    {o : Output} (hshort : o.proof = .short) (hdue : o.retryDue = true) (hretrying : o.retrying = false) :
    o.retried now c cmd lit =
      if lit = true ∧ o.lit = false then
        { o with command := cmd, lit := lit, retrying := true, check := .running now c.blanking, pwm := 0,
                 pwmDuty := c.retryDuty }
      else { o with command := cmd, lit := lit } := by
  have hoff : cmd ≠ .off := by rintro rfl; cases hcmd
  have hsteady : cmd ≠ .steady := by rintro rfl; cases hcmd
  rw [Output.retried, Output.shown_of_commanded hoff lit (by simp [hshort])]
  cases hlit : o.lit <;> cases lit <;>
    simp [Output.followRetry, hshort, hdue, hretrying, hsteady, Output.followDriven, Output.driven, Output.heldOff,
      Output.dutyInPlace]

/-- A retry being taken under STEADY at an event: the output is driven from there (R139, R147). -/
theorem Output.retried_of_taken (now : Time) (c : StationConfig) {o : Output} (hshort : o.proof = .short)
    (hretrying : o.retrying = true) :
    o.retried now c .steady true =
      { o with command := .steady, lit := true, pwm := if o.lit then o.pwm else 0,
               pwmDuty := if o.lit then o.pwmDuty else c.retryDuty } := by
  rw [Output.retried, Output.shown_of_commanded (by decide) true (by simp [hshort])]
  cases hlit : o.lit <;>
    simp [Output.followRetry, hshort, hretrying, hlit, Output.followDriven, Output.driven, Output.heldOff,
      Output.dutyInPlace]

/-- An unjudged output under OFF has no retry (R143). -/
theorem Output.follow_of_off (now : Time) (c : StationConfig) (cfg : OutputConfig) (lit : Bool) {o : Output}
    (hproof : o.proof = .off) :
    let o' := o.follow now c cfg .off lit
    o'.proof = .off ∧ o'.retry = .stopped ∧ o'.retryDue = false ∧ o'.retrying = false := by
  intro o'
  obtain ⟨check, h⟩ := o.follow_eq now c cfg .off lit
  have hretried : o.retried now c .off lit =
      (o.shown .off lit).followDriven c o.driven := by
    rw [Output.retried, Output.followRetry_of_not_short (by simp [Output.shown, Output.followCommand, hproof])]
  have ho' : o' = { o.retried now c .off lit with check := check } := h
  rw [ho', hretried, Output.followDriven]
  split <;> simp [Output.shown, Output.followCommand, hproof]

/-- An output after its retry falls due at an event that leaves its command (R147). -/
theorem Output.follow_of_retry (now : Time) (c : StationConfig) (cfg : OutputConfig) (phase period : Nat) {o : Output}
    (hshort : o.proof = .short) (hretrying : o.retrying = false) :
    let o' := (o.retryFallsDue now c).follow now c cfg o.command (o.command.lit phase period)
    o'.retry = .stopped ∧
    (o.command = .off → o'.proof = .off ∧ o'.retryDue = false) ∧
    (o.command = .steady → o'.proof = .short ∧ o'.retrying = true ∧ o'.driven = true ∧
      o'.check = .running now (blankingTime c.blankingCode)) ∧
    (o'.retrying = true → o'.pwm = 0 ∧ o'.pwmDuty = c.retryDuty) ∧
    (o.command = .flashA ∨ o.command = .flashB → o'.proof = .short ∧
      (o'.retrying = true ↔ o'.lit = true ∧ o.lit = false) ∧ o'.retryDue = true) := by
  intro o'
  have flashing (hflash : o.command.flashing = true) : o' =
      if o.command.lit phase period = true ∧ o.lit = false then
        { o with lit := o.command.lit phase period, retry := .stopped, retryDue := true, retrying := true,
                 check := .running now c.blanking, pwm := 0, pwmDuty := c.retryDuty }
      else { o with lit := o.command.lit phase period, retry := .stopped, retryDue := true } := by
    have hq := Output.retryFallsDue_of_flashing hshort hflash now c
    have hretried := Output.retried_of_due (o := o.retryFallsDue now c) hflash now c (o.command.lit phase period)
      (by rw [hq]; exact hshort) (by rw [hq]) (by rw [hq]; exact hretrying)
    have hproof : ((o.retryFallsDue now c).retried now c o.command (o.command.lit phase period)).proof = .short := by
      rw [hretried, hq]
      split <;> exact hshort
    have ho' := Output.follow_of_short now c cfg o.command (o.command.lit phase period) hproof
    rw [hretried, hq] at ho'
    exact (congrArg (Output.follow now c cfg o.command (o.command.lit phase period)) hq).trans ho'
  have hout : o' = (o.retryFallsDue now c).follow now c cfg o.command (o.command.lit phase period) := rfl
  clear_value o'
  cases hcmd : o.command with
  | off =>
    rw [hcmd, Output.retryFallsDue_of_off hshort hcmd] at hout
    obtain ⟨hproof, hretry, hdue, hretrying⟩ := hout ▸ Output.follow_of_off now c cfg (Command.off.lit phase period)
      (o := { o with retry := .stopped, proof := .off, retryDue := false, retrying := false, check := .stopped }) rfl
    exact ⟨hretry, fun _ => ⟨hproof, hdue⟩, nofun, fun h => absurd (hretrying.symm.trans h) (by decide), by simp⟩
  | steady =>
    have htaken := Output.retried_of_taken now c (o := o.retryFallsDue now c)
      (by rw [Output.retryFallsDue_of_steady hshort hretrying hcmd]; exact hshort)
      (by rw [Output.retryFallsDue_of_steady hshort hretrying hcmd])
    rw [hcmd, show Command.steady.lit phase period = true from rfl, Output.follow_of_short _ _ _ _ _
      (by rw [htaken, Output.retryFallsDue_of_steady hshort hretrying hcmd]; exact hshort), htaken,
      Output.retryFallsDue_of_steady hshort hretrying hcmd] at hout
    subst hout
    refine ⟨rfl, nofun, fun _ => ⟨hshort, rfl, ?_, rfl⟩, fun _ => ?_, by simp⟩
    · simp [Output.driven, Output.heldOff]
    · cases o.lit <;> exact ⟨rfl, rfl⟩
  | flashA | flashB =>
    have h := flashing (by rw [hcmd]; rfl)
    rw [hcmd] at h
    split at h
    next hlit =>
      subst h
      exact ⟨rfl, nofun, nofun, fun _ => ⟨rfl, rfl⟩, fun _ => ⟨hshort, iff_of_true rfl hlit, rfl⟩⟩
    next hlit =>
      subst h
      exact ⟨rfl, nofun, nofun, fun h => absurd (hretrying.symm.trans h) (by decide),
        fun _ => ⟨hshort, iff_of_false (by simp [hretrying]) hlit, rfl⟩⟩

/-- Settles O42, from what the retry makes of the output and the following of its command. -/
theorem retryFallsDue : Obligations.RetryFallsDue := by
  intro s i running due hshort hretrying blanking
  have hshows := State.conclude_shows s (s.setOutput i (s.lamps.outputs[i].retryFallsDue s.clock s.cfg))
  have hstill : (s.setOutput i (s.lamps.outputs[i].retryFallsDue s.clock s.cfg)).still = s.still := rfl
  refine ⟨_, ?_, hshows.1.trans hstill, ?_⟩
  · simp only [exec, execRetryTimerExpiry, running, due, Bool.and_self, if_true]
  · intro o o' hcmd
    have ho' : o' = (o.retryFallsDue s.clock s.cfg).follow s.clock s.cfg s.cfg.outputs[i] o.command
        (o.command.lit s.flashPhase s.cfg.flashPeriod) := by
      rw [← hcmd]
      refine (hshows.2 i).trans ?_
      rw [State.setOutput_get, ← hshows.command i]
      rfl
    rw [ho']
    exact Output.follow_of_retry s.clock s.cfg s.cfg.outputs[i] s.flashPhase s.cfg.flashPeriod hshort hretrying

end Sys2Proof.Machine

/-!
PROOFS. How far the sequencer moves at the end of an event: not at all at a halted station or at one whose next move is
not due, and without a HALT at a calm one; what a HALT raised at the event leaves waiting.
-/

namespace Sys2Proof.Machine

/-! ### What the reactions before the sequencer leave of it -/

/-- The state after the reactions that come before the end of recovery. -/
def State.followed (s : State) : State := s.followReference.followPrewarn.followEvidence.followStall

theorem State.prepared_eq (s : State) : s.prepared = s.followed.followRecovery := rfl

/-- What the reactions before the sequencer leave of the sequencer and of the signal state, the end of recovery apart. -/
def State.track (s : State) : Sequencer × SignalState := (s.seq, s.signal)

theorem State.followReference_track (s : State) : s.followReference.track = s.track := by
  unfold State.followReference
  dsimp only
  split <;> rfl

theorem State.followPrewarn_track (s : State) : s.followPrewarn.track = s.track := by
  unfold State.followPrewarn
  split
  · split
    · split <;> rfl
    · rfl
  · rfl

theorem State.followEvidence_track (s : State) : s.followEvidence.track = s.track := by
  unfold State.followEvidence
  split
  · split <;> rfl
  · rfl

theorem State.followStall_track (s : State) : s.followStall.track = s.track := by
  unfold State.followStall
  split
  · split <;> rfl
  · rfl

theorem State.followed_track (s : State) : s.followed.track = s.track := by
  rw [State.followed, State.followStall_track, State.followEvidence_track, State.followPrewarn_track,
    State.followReference_track]

theorem State.followed_still (s : State) : s.followed.still = s.still := by simp [State.followed]

theorem State.followed_inRecovery (s : State) : s.followed.inRecovery = s.inRecovery := by
  rw [State.inRecovery, State.inRecovery, State.role_of_still s.followed_still,
    show s.followed.signal = s.signal from congrArg Prod.snd s.followed_track]

/-- Out of recovery nothing before the sequencer touches it (R68). -/
theorem State.prepared_track {s : State} (h : s.inRecovery = false) : s.prepared.track = s.track := by
  rcases s.followed.followRecovery_cases with hr | ⟨hr, -⟩
  · rw [State.prepared_eq, hr, State.followed_track]
  · rw [State.followed_inRecovery, h] at hr
    cases hr

theorem State.prepared_seq {s : State} (h : s.inRecovery = false) : s.prepared.seq = s.seq :=
  congrArg Prod.fst (State.prepared_track h)

theorem State.inRecovery_of_role {s : State} (h : s.role ≠ .signal) : s.inRecovery = false := by
  simp [State.inRecovery, h]

@[simp] theorem State.prepared_stepNow (s : State) : s.prepared.stepNow = s.stepNow := by
  rw [State.stepNow, State.prepared_step, State.stepNow]

@[simp] theorem State.prepared_doing (s : State) (k : ForwardStep) (d : Direction) :
    s.prepared.doing k d = s.doing k d := by
  rw [State.doing, State.prepared_stepNow, State.doing]

@[simp] theorem State.prepared_halted (s : State) : s.prepared.halted = s.halted := by
  rw [State.halted, State.prepared_halt, State.halted]

/-! ### The causes of travel -/

theorem State.hoistTravel_of_step {s t : State} (hstill : t.still = s.still) (hstep : t.seq.step = s.seq.step) :
    t.hoistTravel = s.hoistTravel := by
  simp only [State.hoistTravel, State.doing, State.stepNow, State.role_of_still hstill, hstep]

/-- The causes of travel are formed from what no reaction touches and the step in progress. -/
theorem State.travelCauses_of_step {s t : State} (hstill : t.still = s.still) (hstep : t.seq.step = s.seq.step) :
    t.travelCauses = s.travelCauses := by
  have hflagged : t.flagged .hoist = s.flagged .hoist := by
    rw [State.flagged, State.flagged, show t.peers = s.peers from congrArg Still.peers hstill]
  have htop : t.topLimit = s.topLimit := State.gi_of_still hstill 7
  have hstopped : t.hoistPeerStopped = s.hoistPeerStopped := by
    unfold State.hoistPeerStopped
    rw [hflagged]
  have hdoing : t.doing .raise .forward = s.doing .raise .forward := by
    rw [State.doing, State.stepNow, hstep, State.doing, State.stepNow]
  rw [State.travelCauses, State.travelCauses, State.hoistTravel_of_step hstill hstep, hdoing, htop,
    State.hoistPeersTracked_of_still hstill, hstopped]

theorem State.travelCauses_of_no_travel {s : State} (h : s.hoistTravel = false) : s.travelCauses = [] := by
  simp [State.travelCauses, h]

/-- A calm station meets no cause of travel. -/
theorem State.calm.travelCauses {s : State} (h : s.calm) : s.travelCauses = [] := by
  rcases h with hrole | ⟨hflagged, htop⟩ | ⟨-, htravel, -⟩
  · exact State.travelCauses_of_no_travel (by simp [State.hoistTravel, hrole])
  · simp [State.travelCauses, State.hoistPeersTracked, State.hoistPeerStopped, hflagged, htop]
  · exact State.travelCauses_of_no_travel htravel

/-- Calm lasts while no travel step begins. -/
theorem State.calm_of_parts {s t : State} (hstill : t.still = s.still) (hskew : t.level.skew = s.level.skew)
    (htravel : s.flagged .hoist ≠ [] → s.hoistTravel = false → s.level.skew = none → t.hoistTravel = false)
    (h : s.calm) : t.calm := by
  have hflagged : t.flagged .hoist = s.flagged .hoist := by
    rw [State.flagged, State.flagged, show t.peers = s.peers from congrArg Still.peers hstill]
  have htop : t.topLimit = s.topLimit := State.gi_of_still hstill 7
  rw [State.calm, State.role_of_still hstill, hflagged, htop, hskew]
  rcases h with hrole | hlone | ⟨hsome, hrest, hnone⟩
  · exact .inl hrole
  · exact .inr (.inl hlone)
  · exact .inr (.inr ⟨hsome, htravel hsome hrest hnone, hnone⟩)

theorem State.settle_seq_step (s : State) : s.settle.seq.step = s.seq.step := by
  have hgrant : s.grantHand.seq.step = s.seq.step := by
    unfold State.grantHand
    split
    · exact s.discardInterrupted_step
    · rfl
  unfold State.settle
  dsimp only
  split <;> exact hgrant

theorem State.settle_level (s : State) : s.settle.level = s.level := by
  unfold State.settle
  dsimp only
  split <;> exact s.grantHand_level

theorem State.beginStep_skew (s : State) (st : Step) (b : Bool) : (s.beginStep st b).level.skew = s.level.skew := by
  rcases s.beginStep_level_cases st b with h | h <;> rw [h]
  rfl

theorem State.hoistTravel_of_none {s : State} (h : s.seq.step = none) : s.hoistTravel = false := by
  simp [State.hoistTravel, State.doing, State.stepNow, h]

theorem State.hoistTravel_of_kind {s : State} {p : StepInProgress} (h : s.seq.step = some p) (hkind : p.step.kind ≠ .raise) :
    s.hoistTravel = false := by
  have hne (d : Direction) : p.step ≠ { kind := .raise, dir := d } := fun hp => hkind (by rw [hp])
  simp [State.hoistTravel, State.doing, State.stepNow, h, hne]

/-- Where hoist peers are flagged, a RAISE or a LOWER begins under a formed skew alone (R81, R83). -/
theorem State.skew_of_raise {s : State} {st : Step} (hkind : st.kind = .raise) (start : s.startCondition st = true)
    (hflagged : s.flagged .hoist ≠ []) : s.level.skew ≠ none := by
  obtain ⟨k, d⟩ := st
  obtain rfl : k = .raise := hkind
  have hskew : s.skewAllowsStart = true := by
    cases d <;> simp only [State.startCondition, Bool.and_eq_true] at start <;> exact start.2
  rcases State.skewAllowsStart_iff.mp hskew with ⟨k, hk, -⟩ | ⟨-, hnone⟩
  · simp [hk]
  · exact absurd hnone hflagged

/-- A calm station that makes a move stays calm, and its halt record and mail stay as they are. -/
theorem State.calm.nextMove {s : State} {held b : Bool} {r : Bool × State} (hs : s.calm)
    (h : s.nextMove held b = some r) : r.2.calm ∧ r.2.halt = s.halt ∧ r.2.mail = s.mail := by
  have hstill := State.nextMove_still h
  have hcauses := hs.travelCauses
  have calm (t : State) (hstill : t.still = s.still) (hskew : t.level.skew = s.level.skew) (hnone : t.seq.step = none) :
      t.calm := State.calm_of_parts hstill hskew (fun _ _ _ => State.hoistTravel_of_none hnone) hs
  unfold State.nextMove at h
  split at h
  · rcases State.endMove_cases h with ⟨-, rfl⟩ | ⟨-, hne, -⟩ | ⟨-, hne, -⟩ | ⟨-, -, -, rfl⟩ | ⟨-, -, -, -, rfl⟩
    · refine ⟨State.calm_of_parts hstill ?_ (fun _ _ _ => ?_) hs, rfl, rfl⟩
      · rfl
      · exact State.hoistTravel_of_kind rfl nofun
    · exact absurd hcauses hne
    · exact absurd hcauses hne
    · exact ⟨calm _ rfl rfl rfl, rfl, rfl⟩
    · exact ⟨calm _ rfl rfl rfl, rfl, rfl⟩
  · obtain ⟨st, -, -, start, -, rfl⟩ := State.beginMove_cases h
    refine ⟨State.calm_of_parts hstill (s.beginStep_skew st b) (fun hflagged _ hskew => ?_) hs,
      s.beginStep_halt st b, s.beginStep_mail st b⟩
    refine State.hoistTravel_of_kind (State.beginStep_step s st b) fun hkind => ?_
    exact State.skew_of_raise hkind start hflagged hskew

/-- The sequencer's work at a calm station leaves the halt record and the mail as they are. -/
theorem State.calm.sequenced {s : State} (held : Bool) (hs : s.calm) :
    (s.sequenced held).halt = s.halt ∧ (s.sequenced held).mail = s.mail := by
  have hprepared : s.prepared.calm :=
    State.calm_of_parts s.prepared_still (by rw [State.prepared_level])
      (fun _ h _ => (State.hoistTravel_of_step s.prepared_still s.prepared_step).trans h) hs
  refine (State.sequenced_keeps (P := fun t => t.calm ∧ t.halt = s.halt ∧ t.mail = s.mail) (fun t ht => ?_)
    (fun t b r ht hm => ?_) ⟨hprepared, s.prepared_halt, s.prepared_mail⟩).2
  · obtain ⟨hcalm, hhalt, hmail⟩ := ht
    refine ⟨State.calm_of_parts t.settle_still (by rw [State.settle_level]) (fun _ h _ => ?_) hcalm,
      t.settle_halt.trans hhalt, t.settle_mail.trans hmail⟩
    exact (State.hoistTravel_of_step t.settle_still t.settle_seq_step).trans h
  · obtain ⟨hcalm, hhalt, hmail⟩ := ht
    obtain ⟨hcalm', hhalt', hmail'⟩ := hcalm.nextMove hm
    exact ⟨hcalm', hhalt'.trans hhalt, hmail'.trans hmail⟩

/-- The end of an event at which no reaction halts forms at most a STATUS. -/
theorem State.conclude_filled_status {before after : State}
    (h : (after.sequenced (before.reversalStopped after)).mail = after.mail) :
    after.Filled [.status] (State.conclude before after) := by
  have hmail : (after.react (before.reversalStopped after)).mail = after.mail := by
    rw [State.react_eq]
    exact (State.followHandMove_mail _).trans h
  rcases State.conclude_cases before after with hc | hc <;> rw [hc]
  · exact .of_mail hmail
  · exact (State.Filled.of_mail hmail).trans (State.noteChange_filled _ _)

theorem State.calm.conclude {after : State} (hs : after.calm) (before : State) :
    (State.conclude before after).halt = after.halt ∧ after.Filled [.status] (State.conclude before after) :=
  ⟨(State.conclude_halt before after).trans (hs.sequenced _).1, State.conclude_filled_status (hs.sequenced _).2⟩

/-! ### A sequencer that makes no move -/

/-- A sequencer with no move due does nothing but settle. -/
theorem State.sequenced_of_no_move {s : State} {held : Bool} (h : s.prepared.settle.nextMove held false = none) :
    s.sequenced held = s.prepared.settle := by
  rw [State.sequenced_eq, advanceBound, State.advance]
  simp only [h]

/-- A sequencer whose only move of the event is its first. -/
theorem State.sequenced_of_one_move {s u : State} {held b : Bool}
    (first : s.prepared.settle.nextMove held false = some (b, u)) (second : u.settle.nextMove held b = none) :
    s.sequenced held = u.settle := by
  rw [State.sequenced_eq, advanceBound, State.advance]
  simp only [first]
  rw [State.advance]
  simp only [second]

theorem State.nextMove_of_halted {s : State} (halted : s.halted = true) (hstep : s.seq.step = none) (held b : Bool) :
    s.nextMove held b = none := by
  have hmay : s.mayBegin = false := by simp [State.mayBegin, halted]
  rw [State.nextMove, State.stepNow, hstep]
  simp only [Option.map_none, State.beginMove, hmay, Bool.false_and]
  split <;> rfl

theorem State.settle_halted (s : State) : s.settle.halted = s.halted := by
  rw [State.halted, State.settle_halt, State.halted]

/-- The sequencer of a halted station makes no move. -/
theorem State.sequenced_of_halted {s : State} (halted : s.halted = true) (hstep : s.seq.step = none) (held : Bool) :
    s.sequenced held = s.prepared.settle :=
  State.sequenced_of_no_move (State.nextMove_of_halted
    (by rw [State.settle_halted, State.prepared_halted, halted])
    (by rw [State.settle_seq_step, State.prepared_step, hstep]) held false)

/-! ### The end of an event at a halted station -/

/-- A station is halted with nothing moving. -/
def State.stopped (s : State) : Prop := s.halted = true ∧ s.resting

theorem State.atRest_of_halted {s : State} (halted : s.halted = true) (rest : s.level.speedRef = 0) :
    s.atRest = true := by
  simp [State.atRest, State.drivesInactive, State.generalOutputs_of_halted halted, rest, List.replicate]

theorem State.grantHand_seq (s : State) : s.grantHand.seq.journal = s.seq.journal ∧
    s.grantHand.seq.stopping = s.seq.stopping ∧ s.grantHand.hand.move = s.hand.move ∧
    (s.hand.state ≠ .pending → s.grantHand = s) := by
  unfold State.grantHand State.enterHand State.discardInterrupted
  split
  next h =>
    rw [Bool.and_eq_true, beq_iff_eq] at h
    dsimp only
    split <;> exact ⟨rfl, rfl, rfl, fun hne => absurd h.1 hne⟩
  next => exact ⟨rfl, rfl, rfl, fun _ => rfl⟩

/-- Settling keeps the journal, the stopping stage and the hand move; the rest of the sequencer where no hand request
waits. -/
theorem State.settle_keeps (s : State) : s.settle.seq.journal = s.seq.journal ∧
    s.settle.seq.stopping = s.seq.stopping ∧ s.settle.hand.move = s.hand.move ∧
    (s.hand.state ≠ .pending → s.settle.seq = s.seq ∧ s.settle.hand = s.hand) := by
  obtain ⟨hjournal, hstopping, hmove, hsame⟩ := s.grantHand_seq
  unfold State.settle
  dsimp only
  split <;> exact ⟨hjournal, hstopping, hmove, fun h => by simp [hsame h]⟩

theorem State.followHandMove_of_none {s : State} (h : s.hand.move = none) : s.followHandMove = s := by
  unfold State.followHandMove State.endHandMove
  rw [h]
  split <;> rfl

theorem State.worked_of_halted {s : State} (h : s.stopped) (held : Bool) : s.worked held = s.prepared.settle := by
  obtain ⟨halted, hstep, hmove, -⟩ := h
  rw [State.worked, State.sequenced_of_halted halted hstep]
  refine State.followHandMove_of_none ?_
  obtain ⟨-, -, hkept, -⟩ := s.prepared.settle_keeps
  rw [hkept, State.prepared_hand, hmove]

theorem State.settle_of_halted {s : State} (halted : s.halted = true) (hstep : s.seq.step = none) :
    s.settle.hoist.handshake = .none := by
  have hgrant : s.grantHand.seq.step = none ∧ s.grantHand.halted = true := by
    refine ⟨?_, by rw [State.halted, State.grantHand_halt]; exact halted⟩
    unfold State.grantHand
    split
    · exact s.discardInterrupted_step.trans hstep
    · exact hstep
  obtain ⟨hnone, hhalted⟩ := hgrant
  have hhand : s.grantHand.handshakeNow = .none := by simp [State.handshakeNow, hhalted]
  unfold State.settle
  simp only [hnone, Option.isNone_none, if_true]
  exact hhand

/-- The end of an event at a station that stands halted: the halt record stays, nothing moves, and at most a STATUS is
formed. -/
theorem State.stopped.conclude {after : State} (h : after.stopped) (before : State) :
    let t := State.conclude before after
    t.halt = after.halt ∧ t.halted = true ∧ t.resting ∧ t.atRest = true ∧ after.Filled [.status] t ∧
      t.seq.stopping = after.seq.stopping ∧ t.hoist.handshake = .none ∧ t.level = after.level ∧
      (after.inRecovery = false → t.seq.journal = after.seq.journal) ∧
      (after.inRecovery = false → after.hand.state ≠ .pending → t.seq = after.seq) := by
  intro t
  have hworked := State.worked_of_halted h (before.reversalStopped after)
  obtain ⟨halted, hstep, hmove, hzero⟩ := h
  have hseq : t.seq = after.prepared.settle.seq := (State.conclude_seq before after).trans (by rw [hworked])
  have hlevel : t.level = after.level := by
    rw [← State.prepared_level after, ← State.settle_level after.prepared, ← hworked]
    exact State.conclude_level before after
  have hhand : t.hand = after.prepared.settle.hand := (State.conclude_hand before after).trans (by rw [hworked])
  have hhoist : t.hoist = after.prepared.settle.hoist := (State.conclude_hoist before after).trans (by rw [hworked])
  have hsequenced := State.sequenced_of_halted halted hstep (before.reversalStopped after)
  have hhalt : t.halt = after.halt := by
    rw [← State.prepared_halt after, ← State.settle_halt after.prepared, ← hsequenced]
    exact State.conclude_halt before after
  have hfilled : after.Filled [.status] t := State.conclude_filled_status (by
    rw [hsequenced, State.settle_mail, State.prepared_mail])
  clear_value t
  have hhalted : t.halted = true := by rw [State.halted, hhalt]; exact halted
  obtain ⟨hjournal, hstopping, hmove', hsame⟩ := after.prepared.settle_keeps
  refine ⟨hhalt, hhalted, ⟨?_, ?_, ?_⟩, State.atRest_of_halted hhalted (by rw [hlevel, hzero]), hfilled, ?_, ?_, hlevel,
    fun hr => ?_, fun hr hp => ?_⟩
  · rw [hseq, State.settle_seq_step, State.prepared_step, hstep]
  · rw [hhand, hmove', State.prepared_hand, hmove]
  · rw [hlevel, hzero]
  · rw [hseq, hstopping, State.prepared_stopping]
  · rw [hhoist]
    exact State.settle_of_halted (by rw [State.prepared_halted, halted]) (by rw [State.prepared_step, hstep])
  · rw [hseq, hjournal, State.prepared_seq hr]
  · rw [hseq, (hsame (by rwa [State.prepared_hand])).1, State.prepared_seq hr]

/-! ### What waits after an event -/

theorem State.Filled.placed {kinds : List SlotKind} {s t : State} (h : s.Filled kinds t) {k : SlotKind} (hk : k ∉ kinds)
    {tel : Telegram} (hs : s.placed k tel) : t.placed k tel := by
  intro l hl
  obtain ⟨hstill, -, -, hslots⟩ := h.link l
  rw [hslots k hk]
  exact hs l ((LinkController.failed_of_still hstill).symm.trans hl)

theorem State.formHalt_placed {s : State} (mask : s.cfg.haltMask ≠ 0) (free : s.noHaltWaiting) (reason : HaltReason) :
    (s.formHalt reason).placed .haltcmd
      { sender := byteOf s.own, seq := s.former.sequence, body := .halt s.cfg.haltMask reason.code } := by
  cases hlinked : s.bothFailed with
  | false =>
    obtain ⟨ha, hb⟩ := free
    have hmask : s.cfg.haltMask ||| s.linkA.haltMaskWaiting ||| s.linkB.haltMaskWaiting = s.cfg.haltMask := by
      simp [LinkController.haltMaskWaiting, ha, hb]
    rw [State.formHalt_eq hlinked mask, hmask]
    exact State.formTelegram_placed _ _ _
  | true =>
    have hsame : s.formHalt reason = s := by simp [State.formHalt, hlinked]
    rw [hsame]
    simp only [State.bothFailed, Bool.and_eq_true] at hlinked
    intro l hl
    cases l
    · exact absurd (hlinked.1.symm.trans hl) (by decide)
    · exact absurd (hlinked.2.symm.trans hl) (by decide)

/-- A cause that was not present leaves its HALT waiting (R114). -/
theorem State.raiseCause_placed {s : State} {c : LocalCause} (habsent : s.halt.has c = false)
    (mask : s.cfg.haltMask ≠ 0) (free : s.noHaltWaiting) :
    (s.raiseCause c).placed .haltcmd { sender := byteOf s.own, seq := s.former.sequence,
                                        body := .halt s.cfg.haltMask (HaltReason.cause c).code } := by
  have hmail := s.caused_mail c
  have hcfg : (s.caused c).cfg = s.cfg :=
    (congrArg Still.cfg (State.addOrigin_still _ _ _) : _)
  have hfree : (s.caused c).noHaltWaiting := by
    rw [State.noHaltWaiting, show (s.caused c).linkA = s.linkA from congrArg Mail.linkA hmail,
      show (s.caused c).linkB = s.linkB from congrArg Mail.linkB hmail]
    exact free
  have hformer : (s.caused c).former = s.former := congrArg Mail.former hmail
  have h := State.formHalt_placed (s := s.caused c) (by rwa [hcfg]) hfree (.cause c)
  rw [State.raiseCause_of_absent habsent]
  rwa [State.own, hcfg, hformer] at h

end Sys2Proof.Machine

/-!
PROOFS. Receptions: what a counted reception and a sign of trouble leave (O16, O17), how a telegram is delivered, and what
old copies (O20), demands (O21) and queries (O25) do.
-/

namespace Sys2Proof.Machine

/-! ### Counted receptions and trouble -/

/-- What the count of a valid reception and its check make of the untouched part (R153, R159). -/
theorem State.counted_still (s : State) (l : Link) (check : BitVec 16) :
    (s.counted l check).still =
      { (s.setLink l ((s.link l).heard s.clock s.cfg.linkSilence)).still with crc := check } := by
  have h := s.countValid_still l
  rw [← h]
  rfl

theorem State.conclude_counted_still (before s : State) (l : Link) (check : BitVec 16) :
    (State.conclude before (s.counted l check)).still =
      { (s.setLink l ((s.link l).heard s.clock s.cfg.linkSilence)).still with crc := check } :=
  (State.conclude_still _ _).trans (s.counted_still l check)

theorem State.countedReception_eq {s : State} {l : Link} (h : s.mayReceive l = true) (bytes : List Byte) :
    s.countedReception l bytes = State.conclude s (s.counted l (Machine.crc (beforeCheck bytes))) := if_pos h

theorem State.receive_of_failed {s : State} {l : Link} (h : s.mayReceive l = true) (failed : (s.link l).failed = true)
    (t : Telegram) : s.receive l t = State.conclude s (s.counted l (Machine.crc (encodeTelegram t))) := by
  exact (if_pos h).trans (congrArg (State.conclude s) (if_pos failed))

/-- A reception on a working link: counted, delivered, and concluded (R159, R161). -/
theorem State.receive_of_working {s : State} {l : Link} (h : s.mayReceive l = true) (working : (s.link l).failed = false)
    (t : Telegram) : s.receive l t =
      State.conclude s ((s.counted l (Machine.crc (encodeTelegram t))).deliver l (s.capturedPhase l) t) :=
  (if_pos h).trans (congrArg (State.conclude s) (if_neg (by simp [working])))

/-- A RECORD is delivered to no block (R161). -/
theorem State.deliver_record_still (s : State) (l : Link) (captured : Nat) {t : Telegram} {bytes : List Byte}
    (h : t.body = .record bytes) : (s.deliver l captured t).still = s.still := by
  unfold State.deliver
  split
  · rfl
  · split
    · exact s.raiseCause_still _
    · split
      · rw [h]
        rfl
      next i _ =>
        have hsame : s.peers[i].takeOther t.seq (.record bytes) = s.peers[i] := by
          unfold PeerEntry.takeOther
          split <;> simp_all
        split
        · rfl
        · rw [h]
          show (s.setPeer i (s.peers[i].takeOther t.seq (.record bytes))).still = s.still
          rw [hsame]
          simp [State.setPeer]

/-- Settles O17: such a reception ends as its count alone, on a FAILED link and for a RECORD too. -/
theorem discardedReceptionsAreCounted : Obligations.DiscardedReceptionsAreCounted := by
  intro s l hopen counted
  refine ⟨fun bytes hbytes => ⟨_, ?_, State.conclude_counted_still s s l _⟩,
    fun bytes failed hvalid => ⟨_, ?_, State.conclude_counted_still s s l _⟩, fun sender seq bytes => ⟨_, rfl, ?_⟩⟩
  · simp only [exec, execMalformedTelegram, hbytes, BEq.rfl, if_true, State.countedReception_eq hopen]
  · rw [← State.countedReception_eq hopen]
    simp only [exec, execFailedLinkReception, failed, if_true]
    cases hjudged : judgeReception bytes with
    | valid | malformed => rfl
    | framing | badCheck =>
      rw [validReception, hjudged] at hvalid
      cases hvalid
  · cases failed : (s.link l).failed with
    | true =>
      rw [State.receive_of_failed hopen failed]
      exact State.conclude_counted_still s s l _
    | false =>
      rw [State.receive_of_working hopen failed, State.conclude_still, State.deliver_record_still _ _ _ rfl]
      exact s.counted_still l _

/-! ### Trouble -/

/-- A link that a change of its count brings into FAILED is empty (R160). -/
theorem State.setHealth_silent (s : State) (l : Link) (n : Nat) (working : (s.link l).failed = false)
    (failed : ((s.setHealth l n).link l).failed = true) : ((s.setHealth l n).link l).silent = true := by
  have hfilled := (s.setHealth_filled l n).link l
  rw [State.setLink_link] at hfilled
  obtain ⟨hstill, -, hsame, -⟩ := hfilled
  have hjudged : ((s.link l).judge n).failed = true := (LinkController.failed_of_still hstill).symm.trans failed
  rw [hsame hjudged]
  obtain ⟨-, -, -, -, ⟨-, -, hsilent⟩ | ⟨hor, -⟩⟩ := (s.link l).judge_cases n
  · exact hsilent
  · rw [working, hjudged] at hor
    simp at hor

/-- A FAILED link stays as it is to the end of the event. -/
theorem State.conclude_silent (before : State) {after : State} {l : Link}
    (h : (after.link l).failed = true → (after.link l).silent = true)
    (failed : ((State.conclude before after).link l).failed = true) :
    ((State.conclude before after).link l).silent = true := by
  obtain ⟨hstill, -, hsame, -⟩ := (State.conclude_filled before after).link l
  have hfailed := (LinkController.failed_of_still hstill).symm.trans failed
  rw [hsame hfailed]
  exact h hfailed

/-- ISOLATED stands, with the own number among the origins, at a station whose links are both FAILED (R112, R113). -/
theorem State.haltFits.isolated {s : State} (hs : s.haltFits) (failed : s.bothFailed = true) :
    causeHas s.halt.live .isolated = true ∧ maskHas s.halt.origins s.own = true := by
  obtain ⟨-, -, -, -, hown, hisolated, -⟩ := hs
  have hlive : causeHas s.halt.live .isolated = true := hisolated.trans failed
  refine ⟨hlive, hown ?_⟩
  rw [State.causePresent, Bool.or_eq_true, bne_iff_ne]
  left
  intro hz
  simp [hz, causeHas] at hlive

/-- What trouble on a link leads to. -/
theorem State.trouble_leads {s before after : State} {cmd : Instr} (l : Link)
    (h : exec cmd s = .next (State.conclude before after))
    (silent : (s.link l).failed = false → (after.link l).failed = true → (after.link l).silent = true)
    {still : Still} (hstill : after.still = still) (hcfg : still.cfg = s.cfg) :
    ∃ t, exec cmd s = .next t ∧ t.still = still ∧
      ((s.link l).failed = false → (t.link l).failed = true → (t.link l).silent = true) ∧
      (s.haltFits → s.bothFailed = false → t.bothFailed = true →
        causeHas t.halt.live .isolated = true ∧ maskHas t.halt.origins s.own = true) := by
  have hconcluded := (State.conclude_still before after).trans hstill
  refine ⟨_, h, hconcluded, fun working => State.conclude_silent _ (silent working), fun hfits _ hfailed => ?_⟩
  have hown : (State.conclude before after).own = s.own :=
    congrArg StationConfig.station ((congrArg Still.cfg hconcluded).trans hcfg)
  rw [← hown]
  exact (State.Outcome.keeps_haltFits hfits (State.exec_outcome h)).isolated hfailed

/-- Settles O16: each sign of trouble is one change of the link's count (`State.setHealth`) with its reactions. -/
theorem troubleRaisesHealthCount : Obligations.TroubleRaisesHealthCount := by
  intro s l bytes c leads
  refine ⟨fun hopen hbad => ?_, fun hopen => ?_, fun running sending => ?_, fun running due => ?_⟩
  · refine State.trouble_leads (before := s.checked bytes) (after := ((s.checked bytes).endReception l).linkTrouble l) l
      ?_ (fun working => State.setHealth_silent _ l _ ?_) ?_ ?_
    · have hopen' : (s.checked bytes).mayReceive l = true := by cases l <;> exact hopen
      simp only [exec, execBadCheckReception, hbad, hopen, BEq.rfl, Bool.and_self, if_true, State.troubledReception, hopen']
    · cases l <;> exact working
    · rw [State.linkTrouble_still]
      cases l <;> rfl
    · cases l <;> rfl
  · refine State.trouble_leads (before := s) (after := (s.endReception l).linkTrouble l) l
      ?_ (fun working => State.setHealth_silent _ l _ ?_) ?_ ?_
    · simp only [exec, execFramingError, State.troubledReception, hopen, if_true]
    · cases l <;> exact working
    · rw [State.linkTrouble_still]
      cases l <;> rfl
    · cases l <;> rfl
  · obtain ⟨a, ha⟩ := Option.isSome_iff_exists.mp sending
    refine State.trouble_leads (before := s)
      (after := (s.setLink l { s.link l with attempt := none }).linkTrouble l) l
      ?_ (fun working => State.setHealth_silent _ l _ ?_) ?_ ?_
    · simp only [exec, execAttemptDamaged, State.attemptOn_eq_some_iff.mpr ⟨running, ha⟩]
    · cases l <;> exact working
    · rw [State.linkTrouble_still]
      cases l <;> rfl
    · cases l <;> rfl
  · refine State.trouble_leads (before := s) (after := (s.restartSilence l).linkTrouble l) l
      ?_ (fun working => State.setHealth_silent _ l _ ?_) ?_ ?_
    · simp only [exec, execSilenceTimerExpiry, running, due, c, Bool.and_self, if_true]
    · cases l <;> exact working
    · rw [State.linkTrouble_still]
      cases l <;> rfl
    · cases l <;> rfl

end Sys2Proof.Machine

/-!
PROOFS. Telegrams delivered: old copies (O20), demands (O21), queries (O25), HALT and RESUME (O23, O24), the own number
(O18), and the ends of an attempt (O27).
-/

namespace Sys2Proof.Machine

/-! ### A good count at a working link -/

/-- A link that is not FAILED stays so as its count falls (R160). -/
theorem LinkController.fits.good {c : LinkController} (hc : c.fits) (working : c.failed = false) :
    c.state.judge (c.health - 1) ≠ .failed := by
  obtain ⟨-, hgood, hdegraded, -⟩ := hc
  cases hstate : c.state with
  | good =>
    have := hgood hstate
    simp [LinkState.judge, show ¬12 ≤ c.health - 1 by omega, show ¬6 ≤ c.health - 1 by omega]
  | degraded =>
    have := hdegraded hstate
    simp only [LinkState.judge, if_neg (show ¬12 ≤ c.health - 1 by omega)]
    split <;> decide
  | failed => simp [LinkController.failed, hstate] at working

/-- The state with a link's count lowered by 1 and judged: nothing else changes while that link does not fail. -/
theorem State.linkGood_of_fits {s : State} {l : Link} (working : (s.link l).failed = false)
    (good : (s.link l).state.judge ((s.link l).health - 1) ≠ .failed) :
    s.linkGood l = s.setLink l { s.link l with
      health := (s.link l).health - 1, state := (s.link l).state.judge ((s.link l).health - 1) } := by
  obtain ⟨-, hstate, -, -, ⟨-, hfailed, -⟩ | ⟨-, heq⟩⟩ := (s.link l).judge_cases ((s.link l).health - 1)
  · rw [LinkController.failed, hstate, beq_iff_eq] at hfailed
    exact absurd hfailed good
  · have hlinked (c : LinkController) (hc : c.failed = false) : (s.setLink l c).bothFailed = false := by
      cases l <;> simp [State.bothFailed, State.setLink, hc]
    have hbefore : s.bothFailed = false := by
      rw [← hlinked _ working, State.setLink_link_self]
    rcases s.setHealth_cases l ((s.link l).health - 1) with ⟨hboth, -⟩ | ⟨-, hboth, -⟩ | ⟨-, -, h⟩
    · rw [hlinked _ (by rw [LinkController.failed, hstate, beq_eq_false_iff_ne]; exact good)] at hboth
      cases hboth
    · exact absurd (hbefore.symm.trans hboth) (by decide)
    · exact h.trans (congrArg _ heq)



/-- A valid reception counted at a working link changes that link's count, and nothing else. -/
theorem State.counted_of_fits {s : State} {l : Link} (fits : s.linksFit) (working : (s.link l).failed = false)
    (check : BitVec 16) :
    s.counted l check = { s.setLink l ((s.link l).heard s.clock s.cfg.linkSilence) with crc := check } := by
  have hgood := (State.linksFit_link fits l).good working
  have h := State.linkGood_of_fits (s := (s.endReception l).restartSilence l) (l := l)
    (by cases l <;> exact working) (by cases l <;> exact hgood)
  rw [State.counted, State.countValid, h]
  cases l <;> rfl

/-! ### How a telegram is delivered -/

/-- The state with a telegram noted by its sender's entry, if there is one (R5). -/
def State.noted (s : State) (t : Telegram) : State :=
  match s.entryOf t.sender.toNat with
  | none => s
  | some i => s.setPeer i (s.peers[i].takeOther t.seq t.body)

theorem State.noted_of_none {s : State} {t : Telegram} (h : s.entryOf t.sender.toNat = none) : s.noted t = s := by
  simp only [State.noted, h]

theorem State.noted_of_some {s : State} {t : Telegram} {i : Fin 16} (h : s.entryOf t.sender.toNat = some i) :
    s.noted t = s.setPeer i (s.peers[i].takeOther t.seq t.body) := by
  simp only [State.noted, h]

/-- Noting a telegram changes the peer table alone. -/
theorem State.noted_eq (s : State) (t : Telegram) : ∃ peers, s.noted t = { s with peers := peers } := by
  cases h : s.entryOf t.sender.toNat with
  | none => exact ⟨_, State.noted_of_none h⟩
  | some i => exact ⟨_, State.noted_of_some h⟩

theorem State.noted_still (s : State) (t : Telegram) :
    (s.noted t).still = { s.still with peers := (s.noted t).peers } := by
  obtain ⟨peers, h⟩ := s.noted_eq t
  rw [h]
  rfl

/-- A telegram that its sender's entry does not accept is dropped (R4). -/
theorem State.deliver_of_old {s : State} (l : Link) (captured : Nat) {t : Telegram} {i : Fin 16}
    (other : t.sender.toNat ≠ s.own) (entry : s.entryOf t.sender.toNat = some i)
    (old : s.peers[i].accepts t.seq = false) : s.deliver l captured t = s := by
  unfold State.deliver
  rw [entry, if_neg (show ¬(t.sender.toNat == s.own) = true by simpa using other)]
  simp only [old, Bool.not_false, if_true, ite_self]

/-- A telegram other than a STATUS, of a sender without an entry or accepted by it, is noted and handed on (R161). -/
theorem State.deliver_of_accepted {s : State} (l : Link) (captured : Nat) {t : Telegram}
    (formed : telegramMalformed t = false) (other : t.sender.toNat ≠ s.own)
    (accepted : ∀ i, s.entryOf t.sender.toNat = some i → s.peers[i].accepts t.seq = true)
    (kind : ∀ b, t.body ≠ .status b) : s.deliver l captured t = (s.noted t).handOn t.sender.toNat t.body := by
  unfold State.deliver
  rw [if_neg (by simp [formed]), if_neg (show ¬(t.sender.toNat == s.own) = true by simpa using other)]
  cases h : s.entryOf t.sender.toNat with
  | none => rw [State.noted_of_none h]
  | some i =>
    rw [State.noted_of_some h]
    simp only [accepted i h, Bool.not_true, Bool.false_eq_true, if_false]

theorem telegramMalformed_of_known {t : Telegram} (low : 1 ≤ t.sender.toNat) (high : t.sender.toNat ≤ 31)
    (kind : ∀ bytes, t.body ≠ .record bytes) : telegramMalformed t = false := by
  have h0 : (t.sender.toNat == 0) = false := by simpa using (by omega : t.sender.toNat ≠ 0)
  have h31 : decide (31 < t.sender.toNat) = false := by simpa using high
  unfold telegramMalformed
  rw [h0, h31]
  split
  next bytes hb => exact absurd hb (kind bytes)
  next => rfl

/-! ### A count and a note keep the station calm -/

theorem State.counted_peers (s : State) (l : Link) (check : BitVec 16) : (s.counted l check).peers = s.peers :=
  s.countValid_peers l

theorem State.counted_own (s : State) (l : Link) (check : BitVec 16) : (s.counted l check).own = s.own :=
  congrArg StationConfig.station (s.countValid_cfg l)

theorem State.entryOf_of_peers {s t : State} (h : t.peers = s.peers) (n : Nat) : t.entryOf n = s.entryOf n := by
  rw [State.entryOf, State.entryOf, h]

theorem State.flagged_nil_iff {s : State} {f : DepFlag} :
    s.flagged f = [] ↔ ∀ i : Fin 16, s.peers[i].has f = false := by
  rw [← List.isEmpty_iff, State.flagged_isEmpty_iff]
  simp only [Bool.not_eq_true]

theorem State.calm.counted {s : State} (hs : s.calm) (l : Link) (c : LinkController) (check : BitVec 16) :
    ({ s.setLink l c with crc := check } : State).calm := by
  cases l <;> exact hs

theorem PeerEntry.takeOther_has (p : PeerEntry) (seq : Byte) (body : TelegramBody) (f : DepFlag) :
    (p.takeOther seq body).has f = p.has f := by
  rcases p.takeOther_cases seq body with h | ⟨-, h⟩ <;> rw [h]
  rfl

theorem State.noted_flagged_nil {s : State} (t : Telegram) (f : DepFlag) :
    (s.noted t).flagged f = [] ↔ s.flagged f = [] := by
  cases h : s.entryOf t.sender.toNat with
  | none => rw [State.noted_of_none h]
  | some i =>
    rw [State.noted_of_some h, State.flagged_nil_iff, State.flagged_nil_iff]
    refine forall_congr' fun j => ?_
    by_cases hij : i = j
    · subst hij
      simp [PeerEntry.takeOther_has]
    · have hne : i.val ≠ j.val := fun h => hij (Fin.ext h)
      simp [hne]

theorem State.calm.noted {s : State} (hs : s.calm) (t : Telegram) : (s.noted t).calm := by
  have hflagged := State.noted_flagged_nil (s := s) t .hoist
  obtain ⟨peers, h⟩ := s.noted_eq t
  simp only [State.calm, ne_eq, hflagged]
  rw [h]
  exact hs

/-! ### What a counted reception leaves -/

theorem State.counted_slot {s : State} {l : Link} (fits : s.linksFit) (working : (s.link l).failed = false)
    (check : BitVec 16) (l' : Link) (k : SlotKind) :
    ((s.counted l check).link l').slot k = (s.link l').slot k := by
  rw [State.counted_of_fits fits working]
  cases l <;> cases l' <;> cases k <;> rfl

theorem State.counted_parts {s : State} {l : Link} (fits : s.linksFit) (working : (s.link l).failed = false)
    (check : BitVec 16) : (s.counted l check).halt = s.halt ∧ (s.counted l check).former = s.former ∧
      (s.counted l check).seq = s.seq ∧ (s.counted l check).hand = s.hand ∧ (s.counted l check).level = s.level := by
  rw [State.counted_of_fits fits working]
  cases l <;> exact ⟨rfl, rfl, rfl, rfl, rfl⟩

theorem State.calm.after_count {s : State} (hs : s.calm) {l : Link} (fits : s.linksFit)
    (working : (s.link l).failed = false) (check : BitVec 16) : (s.counted l check).calm := by
  rw [State.counted_of_fits fits working]
  exact hs.counted l _ check

/-- The RECORD slots after an event that forms none. -/
theorem State.records_of_slots {s t : State} (h : ∀ l, (t.link l).slot .record = (s.link l).slot .record) :
    t.linkA.record = s.linkA.record ∧ t.linkB.record = s.linkB.record :=
  ⟨h .a, h .b⟩

theorem State.Filled.slot {kinds : List SlotKind} {s t : State} (h : s.Filled kinds t) {k : SlotKind} (hk : k ∉ kinds)
    (l : Link) : (t.link l).slot k = (s.link l).slot k := by
  obtain ⟨-, -, -, hslots⟩ := h.link l
  exact hslots k hk

/-! ### Old copies -/

theorem exec_telegramCommand (l : Link) (t : Telegram) (s : State) :
    exec (telegramCommand l t) s = .next (s.receive l t) := by
  obtain ⟨sender, seq, body⟩ := t
  cases body <;> rfl

theorem newer_iff (last seq : Byte) : newer last seq = true ↔
    1 ≤ (seq.toNat + 256 - last.toNat) % 256 ∧ (seq.toNat + 256 - last.toNat) % 256 ≤ 127 := by
  have h : (seq - last).toNat = (seq.toNat + 256 - last.toNat) % 256 := by
    rw [BitVec.toNat_sub, Nat.add_comm (2 ^ 8 - last.toNat), ← Nat.add_sub_assoc (le_of_lt last.isLt)]
  rw [newer, Bool.and_eq_true, decide_eq_true_iff, decide_eq_true_iff, h]

/-- Settles O20: an old copy is dropped (`State.deliver_of_old`), so that its count alone is left. -/
theorem oldCopiesAreDiscarded : Obligations.OldCopiesAreDiscarded := by
  refine ⟨fun p last seq hlast hstate => ?_, fun p seq hstate => ?_, fun s l tel i hopen working other entry old => ?_⟩
  · rw [← newer_iff, PeerEntry.accepts, hlast]
    rcases hstate with h | h | h <;> simp only [h]
  · rcases hstate with h | h <;> simp only [PeerEntry.accepts, h]
  · have hdropped : (s.counted l (Machine.crc (encodeTelegram tel))).deliver l (s.capturedPhase l) tel =
        s.counted l (Machine.crc (encodeTelegram tel)) :=
      State.deliver_of_old l _ (by rwa [State.counted_own])
        ((State.entryOf_of_peers (s.counted_peers l _) _).trans entry)
        (by simpa only [State.counted_peers] using old)
    refine ⟨_, exec_telegramCommand l tel s, ?_, fun fits => ?_, fun fits hcalm => ?_⟩ <;>
      rw [State.receive_of_working hopen working, hdropped]
    · exact State.conclude_counted_still s s l _
    · exact State.records_of_slots fun l' => ((State.conclude_filled s _).slot (by decide) l').trans
        (State.counted_slot fits working _ l' .record)
    · exact ((hcalm.after_count fits working _).conclude s).1.trans (State.counted_parts fits working _).1

/-! ### Demands -/

theorem Demand.exceeds_iff (d : Demand) (o : Option Demand) : d.exceeds o = true ↔
    ∀ a, o = some a → a.number < d.number ∨ a.number = d.number ∧ a.issuer < d.issuer := by
  cases o with
  | none => simp [Demand.exceeds_none]
  | some a =>
    simp only [Demand.exceeds_some, identityGreater_eq_true_iff, Option.some.injEq, forall_eq']
    omega

theorem State.receiveDemand_adopted (s : State) (d : Demand) :
    (s.receiveDemand d).demand.adopted = if d.exceeds s.demand.adopted then some d else s.demand.adopted := by
  rcases s.receiveDemand_cases d with ⟨hexceeds, h⟩ | ⟨hexceeds, h⟩ <;> rw [h, hexceeds]
  · rfl
  · rw [State.adopt_demand]
    rfl

/-- A demand offered by a telegram or an echo is adopted when it is one, its issuer is in the desk set and its identity
is greater than the adopted one; otherwise the adopted demand stays (R24 to R26). -/
theorem State.takeDemand_adopts (s : State) (issuer : Nat) (code : Byte) (number : Word16) :
    let t := s.takeDemand issuer code number
    let greater : Prop := ∀ a, s.demand.adopted = some a →
      a.number < number.toNat ∨ a.number = number.toNat ∧ a.issuer < issuer
    (∀ k, demandKindOf code = some k → issuer ∈ s.cfg.deskSet → number ≠ 0 → greater →
      t.demand.adopted = some { number := number.toNat, issuer := issuer, kind := k }) ∧
    (demandKindOf code = none ∨ issuer ∉ s.cfg.deskSet ∨ number = 0 ∨ ¬greater →
      t.demand.adopted = s.demand.adopted) := by
  intro t greater
  have hzero : (number.toNat != 0) = true ↔ number ≠ 0 := by
    rw [bne_iff_ne, ne_eq, ne_eq, ← BitVec.toNat_inj]
    rfl
  cases hkind : demandKindOf code with
  | none =>
    have ht : t = s := by simp only [t, State.takeDemand, State.demandOf, hkind]
    exact ⟨nofun, fun _ => by rw [ht]⟩
  | some k =>
    by_cases hvalid : issuer ∈ s.cfg.deskSet ∧ number ≠ 0
    · have hdemand : s.demandOf issuer number.toNat code = some { number := number.toNat, issuer := issuer, kind := k } := by
        simp only [State.demandOf, hkind]
        rw [if_pos (by rw [Bool.and_eq_true, List.contains_iff_mem]; exact ⟨hvalid.1, hzero.mpr hvalid.2⟩)]
      have ht : t.demand.adopted = if ({ number := number.toNat, issuer := issuer, kind := k } : Demand).exceeds
          s.demand.adopted then some { number := number.toNat, issuer := issuer, kind := k } else s.demand.adopted := by
        rw [← State.receiveDemand_adopted]
        simp only [t, State.takeDemand, hdemand]
      refine ⟨fun k' hk' _ _ hgreater => ?_, fun h => ?_⟩
      · obtain rfl : k = k' := Option.some.inj hk'
        rw [ht, if_pos ((Demand.exceeds_iff _ _).mpr hgreater)]
      · rcases h with h | h | h | h
        · cases h
        · exact absurd hvalid.1 h
        · exact absurd h hvalid.2
        · rw [ht, if_neg (fun hexceeds => h ((Demand.exceeds_iff _ _).mp hexceeds))]
    · have hdemand : s.demandOf issuer number.toNat code = none := by
        simp only [State.demandOf, hkind]
        rw [if_neg (by rw [Bool.and_eq_true, List.contains_iff_mem, hzero]; exact hvalid)]
      have ht : t = s := by simp only [t, State.takeDemand, hdemand]
      exact ⟨fun _ _ hdesk hnumber _ => absurd ⟨hdesk, hnumber⟩ hvalid, fun _ => by rw [ht]⟩

theorem PeerEntry.takeOther_demand (p : PeerEntry) (seq code : Byte) (number : Word16) :
    p.takeOther seq (.demand code number) =
      if p.state = .acquiring ∨ p.state = .tracked ∨ p.state = .mismatch then { p with lastSeq := some seq } else p := by
  cases h : p.state <;> simp [PeerEntry.takeOther, h]

theorem State.noted_counted_peers {s : State} (l : Link) (check : BitVec 16) (t : Telegram) :
    ((s.counted l check).noted t).peers = (s.noted t).peers := by
  have hentry := State.entryOf_of_peers (s.counted_peers l check) t.sender.toNat
  cases h : s.entryOf t.sender.toNat with
  | none =>
    rw [State.noted_of_none h, State.noted_of_none (hentry.trans h)]
    exact s.counted_peers l check
  | some i =>
    rw [State.noted_of_some h, State.noted_of_some (hentry.trans h)]
    simp only [State.setPeer, State.counted_peers]

/-- A telegram of a known sender, other than a STATUS or a RECORD, that no entry refuses, on a working link: noted and
handed on after its count. -/
theorem State.receive_of_accepted {s : State} {l : Link} {t : Telegram} (hopen : s.mayReceive l = true)
    (working : (s.link l).failed = false) (low : 1 ≤ t.sender.toNat) (high : t.sender.toNat ≤ 31)
    (other : t.sender.toNat ≠ s.own)
    (accepted : ∀ i, s.entryOf t.sender.toNat = some i → s.peers[i].accepts t.seq = true)
    (status : ∀ b, t.body ≠ .status b) (record : ∀ bytes, t.body ≠ .record bytes) :
    s.receive l t = State.conclude s
      (((s.counted l (Machine.crc (encodeTelegram t))).noted t).handOn t.sender.toNat t.body) := by
  rw [State.receive_of_working hopen working, State.deliver_of_accepted l _ (telegramMalformed_of_known low high record)
    (by rwa [State.counted_own]) (fun i hi => ?_) status]
  rw [State.entryOf_of_peers (s.counted_peers l _)] at hi
  simpa only [State.counted_peers] using accepted i hi

/-- The peer table and the adopted demand are parts of the untouched part. -/
theorem State.still_of_adoption {t : State} {x : Still} {peers : Vector PeerEntry 16} {adopted : Option Demand}
    (h : t.still = { x with peers := peers, adopted := adopted }) :
    t.still = { x with peers := t.peers, adopted := t.demand.adopted } ∧ t.peers = peers ∧
      t.demand.adopted = adopted := by
  have hpeers : t.peers = peers := congrArg Still.peers h
  have hadopted : t.demand.adopted = adopted := congrArg Still.adopted h
  exact ⟨by rw [hpeers, hadopted]; exact h, hpeers, hadopted⟩

/-- Settles O21: the demand is offered (`State.takeDemand_adopts`) to the station whose entry has noted the number. -/
theorem demandIsAdoptedWhenGreater : Obligations.DemandIsAdoptedWhenGreater := by
  intro s l sender seq code number hopen working low high other accepted greater
  let tel : Telegram := { sender := sender, seq := seq, body := .demand code number }
  have hreceive := State.receive_of_accepted (t := tel) hopen working low high other accepted nofun nofun
  let counted := s.counted l (Machine.crc (encodeTelegram tel))
  have hoffered : (counted.noted tel).handOn sender.toNat tel.body =
      (counted.noted tel).takeDemand sender.toNat code number := rfl
  have hadopted : (counted.noted tel).demand.adopted = s.demand.adopted := by
    obtain ⟨peers, h⟩ := counted.noted_eq tel
    rw [h]
    exact s.countValid_adopted l
  have hcfg : (counted.noted tel).cfg = s.cfg := by
    obtain ⟨peers, h⟩ := counted.noted_eq tel
    rw [h]
    exact s.countValid_cfg l
  obtain ⟨hadopts, hstays⟩ := (counted.noted tel).takeDemand_adopts sender.toNat code number
  have htaken := (counted.noted tel).takeDemand_still sender.toNat code number
  rw [counted.noted_still, s.counted_still, State.noted_counted_peers] at htaken
  rw [hadopted, hcfg] at hadopts hstays
  have hconcluded := (State.conclude_still s _).trans htaken
  rw [← hoffered, ← hreceive] at hconcluded
  obtain ⟨hstill, hpeers, hdemand⟩ := State.still_of_adoption hconcluded
  refine ⟨_, rfl, hstill, fun k hk desk number' hgreater => hdemand.trans (hadopts k hk desk number' hgreater),
    fun h => hdemand.trans (hstays h), fun hnone => hpeers.trans ?_, fun i hi => hpeers.trans ?_⟩
  · rw [State.noted_of_none (t := tel) hnone]
  · rw [State.noted_of_some (t := tel) hi]
    show s.peers.set i (s.peers[i].takeOther seq (.demand code number)) = _
    rw [PeerEntry.takeOther_demand]
    split
    · rfl
    · exact Vector.set_getElem_self _

end Sys2Proof.Machine

/-!
PROOFS. Queries (O25), HALT and RESUME received (O23, O24), the own number received (O18), and the ends of an attempt
(O27).
-/

namespace Sys2Proof.Machine

/-! ### Queries -/

/-- Settles O25: the snapshot service forms its RECORD from the counted state, and no reaction touches its slots. -/
theorem queryFormsRecord : Obligations.QueryFormsRecord := by
  intro s l sender seq target hopen working fits low high other entry
  let tel : Telegram := { sender := sender, seq := seq, body := .query target }
  let counted := s.counted l (Machine.crc (encodeTelegram tel))
  have hreceive := State.receive_of_accepted (t := tel) hopen working low high other
    (fun i hi => absurd (entry.symm.trans hi) (by simp)) nofun nofun
  have hentry : counted.entryOf tel.sender.toNat = none := (State.entryOf_of_peers (s.counted_peers l _) _).trans entry
  have hhanded : (counted.noted tel).handOn tel.sender.toNat tel.body = counted.takeQuery sender.toNat target.toNat := by
    rw [State.noted_of_none hentry]
    rfl
  have hown : counted.own = s.own := s.counted_own l _
  have htaken := counted.takeQuery_still sender.toNat target.toNat
  rw [hhanded] at hreceive
  have hconcluded := (State.conclude_still s _).trans htaken
  have hfilled := State.conclude_filled s (counted.takeQuery sender.toNat target.toNat)
  rw [← hreceive] at hconcluded hfilled
  refine ⟨_, rfl, hconcluded.trans (s.counted_still l _), fun hsender htarget => ?_, fun hnot => ?_⟩
  · have hforms : counted.takeQuery sender.toNat target.toNat =
        counted.formTelegram .record (.record counted.recordBody) := by
      have htool : sender.toNat = 31 := by rw [hsender]; rfl
      rw [State.takeQuery, if_pos (by simp [htool, htarget, hown])]
    have hsequence : counted.former.sequence = s.former.sequence :=
      congrArg Former.sequence (State.counted_parts fits working _).2.1
    have hplaced := counted.formTelegram_placed .record (.record counted.recordBody)
    rw [← hforms, hown, hsequence] at hplaced
    exact hfilled.placed (by decide) hplaced
  · have hsame : counted.takeQuery sender.toNat target.toNat = counted := by
      rw [State.takeQuery, if_neg]
      rw [Bool.and_eq_true, beq_iff_eq, beq_iff_eq, hown]
      rintro ⟨hsender, htarget⟩
      exact hnot.elim (fun h => h (BitVec.eq_of_toNat_eq hsender)) (fun h => h htarget)
    rw [hsame] at hfilled
    exact State.records_of_slots fun l' => (hfilled.slot (by decide) l').trans (State.counted_slot fits working _ l' _)

/-! ### HALT and RESUME -/

theorem twoPow_ne_zero {n : Nat} (hn : n < 32) : BitVec.twoPow 32 n ≠ 0 := by
  intro h
  have hbit := congrArg (fun v : BitVec 32 => v.getLsbD n) h
  simp [hn] at hbit

theorem State.not_halted_iff {s : State} : s.halted = false ↔ s.halt.origins = 0 := by
  simp [State.halted]

/-- The first origin at a station not halted (R112, R119): it is halted, and nothing moves. -/
theorem State.addOrigin_of_free {s : State} (free : s.halted = false) {n : Nat} (hn : n < 32) (r : HaltReason) :
    (s.addOrigin n r).halt =
      { s.halt with origins := BitVec.twoPow 32 n, firstOrigin := some n, firstReason := some r } ∧
      (s.addOrigin n r).stopped ∧ (s.addOrigin n r).seq.journal = s.seq.journal := by
  rcases s.addOrigin_cases n r with ⟨halted, -⟩ | ⟨-, hhalt, hstep, hmove, hzero, hjournal⟩
  · exact absurd (free.symm.trans halted) (by decide)
  · have hnone : maskAdd s.halt.origins n = BitVec.twoPow 32 n := by
      rw [maskAdd, State.not_halted_iff.mp free]
      exact BitVec.zero_or
    rw [hnone] at hhalt
    refine ⟨hhalt, ⟨?_, hstep, hmove, hzero⟩, hjournal⟩
    rw [State.halted, hhalt, bne_iff_ne]
    exact twoPow_ne_zero hn

theorem State.addOrigin_of_halted {s : State} (halted : s.halted = true) (n : Nat) (r : HaltReason) :
    s.addOrigin n r = { s with halt := { s.halt with origins := s.halt.origins ||| BitVec.twoPow 32 n } } := by
  rcases s.addOrigin_cases n r with ⟨-, h⟩ | ⟨free, -⟩
  · exact h
  · exact absurd (free.symm.trans halted) (by decide)

theorem State.addOrigin_stopped {s : State} (h : s.stopped) {n : Nat} (hn : n < 32) (r : HaltReason) :
    (s.addOrigin n r).stopped := by
  rw [State.addOrigin_of_halted h.1]
  refine ⟨?_, h.2⟩
  rw [State.halted, bne_iff_ne]
  exact maskAdd_ne_zero _ hn

/-- Parts of a state that a note leaves. -/
theorem State.noted_parts (s : State) (t : Telegram) : (s.noted t).halt = s.halt ∧ (s.noted t).seq = s.seq ∧
    (s.noted t).hand = s.hand ∧ (s.noted t).level = s.level ∧ (s.noted t).cfg = s.cfg ∧
    (s.noted t).inputs = s.inputs := by
  obtain ⟨peers, h⟩ := s.noted_eq t
  rw [h]
  exact ⟨rfl, rfl, rfl, rfl, rfl, rfl⟩

/-- What a telegram noted after its count leaves of a station. -/
theorem State.noted_counted {s : State} {l : Link} (fits : s.linksFit) (working : (s.link l).failed = false)
    (check : BitVec 16) (t : Telegram) :
    let u := (s.counted l check).noted t
    u.halt = s.halt ∧ u.seq = s.seq ∧ u.hand = s.hand ∧ u.level = s.level ∧ u.cfg = s.cfg ∧ u.inputs = s.inputs ∧
      (s.calm → u.calm) := by
  intro u
  obtain ⟨hhalt, hseq, hhand, hlevel, hcfg, hinputs⟩ := (s.counted l check).noted_parts t
  obtain ⟨hhalt', -, hseq', hhand', hlevel'⟩ := State.counted_parts fits working check
  refine ⟨hhalt.trans hhalt', hseq.trans hseq', hhand.trans hhand', hlevel.trans hlevel',
    hcfg.trans (s.countValid_cfg l), hinputs.trans ?_, fun h => (h.after_count fits working check).noted t⟩
  rw [State.counted_of_fits fits working]
  exact s.setLink_inputs l _

/-- Settles O23: the sender joins the origins of the station that has noted the HALT, and at a halted station no reaction
moves. -/
theorem haltAddsItsSender : Obligations.HaltAddsItsSender := by
  intro s l sender seq mask code hopen working fits motion low high other accepted
  let tel : Telegram := { sender := sender, seq := seq, body := .halt mask code }
  obtain ⟨hhalt, hseq, hhand, hlevel, hcfg, -, hcalm⟩ :=
    State.noted_counted fits working (Machine.crc (encodeTelegram tel)) tel
  have hreceive := State.receive_of_accepted (t := tel) hopen working low high other accepted nofun nofun
  generalize hu : (s.counted l (Machine.crc (encodeTelegram tel))).noted tel = u at *
  have hown : u.own = s.own := congrArg StationConfig.station hcfg
  have hhalted : u.halted = s.halted := by rw [State.halted, hhalt, State.halted]
  have hnamed (h : maskHas mask s.own = true) : u.handOn tel.sender.toNat tel.body =
      u.addOrigin sender.toNat (haltReasonOf code) := if_pos (hown ▸ h)
  have hnot (h : maskHas mask s.own = false) : u.handOn tel.sender.toNat tel.body = u :=
    if_neg (by rw [hown, h]; decide)
  have hsender : sender.toNat < 32 := by omega
  refine ⟨_, rfl, fun h free => ?_, fun h halted => ?_, fun h calm => ?_⟩ <;> rw [hreceive]
  · rw [hnamed h]
    obtain ⟨hrecord, hstopped, -⟩ := State.addOrigin_of_free (hhalted.trans free) hsender (haltReasonOf code)
    obtain ⟨hsame, hhalted', ⟨hstep, hmove, -⟩, hrest, -⟩ := hstopped.conclude s
    exact ⟨by rw [hsame, hrecord, hhalt], hhalted', hrest, hstep, hmove⟩
  · rw [hnamed h]
    have hstopped : u.stopped := by
      refine ⟨hhalted.trans halted, ?_⟩
      rw [State.resting, hseq, hhand, hlevel]
      exact motion.halted halted
    obtain ⟨hsame, -⟩ := (State.addOrigin_stopped hstopped hsender (haltReasonOf code)).conclude s
    rw [hsame, State.addOrigin_of_halted (hhalted.trans halted), hhalt]
  · rw [hnot h, ((hcalm calm).conclude s).1, hhalt]

theorem State.settle_interrupted {s : State} (h : s.seq.interrupted = none) : s.settle.seq.interrupted = none := by
  have hgrant : s.grantHand.seq.interrupted = none := by
    unfold State.grantHand State.enterHand State.discardInterrupted
    split
    · dsimp only
      split
      · exact h
      · rfl
    · exact h
  unfold State.settle
  dsimp only
  split <;> exact hgrant

/-- At a calm station no reaction interrupts a step. -/
theorem State.calm.conclude_interrupted {s : State} (hs : s.calm) (h : s.seq.interrupted = none) (before : State) :
    (State.conclude before s).seq.interrupted = none := by
  have hprepared : s.prepared.calm :=
    State.calm_of_parts s.prepared_still (by rw [State.prepared_level])
      (fun _ h _ => (State.hoistTravel_of_step s.prepared_still s.prepared_step).trans h) hs
  rw [State.conclude_seq, State.worked, State.followHandMove_seq]
  refine (State.sequenced_keeps (P := fun t => t.calm ∧ t.seq.interrupted = none) (fun t ht => ?_)
    (fun t b r ht hm => ?_) ⟨hprepared, s.prepared_interrupted.trans h⟩).2
  · refine ⟨State.calm_of_parts t.settle_still (by rw [State.settle_level]) (fun _ h _ => ?_) ht.1,
      State.settle_interrupted ht.2⟩
    exact (State.hoistTravel_of_step t.settle_still t.settle_seq_step).trans h
  · refine ⟨(ht.1.nextMove hm).1, ?_⟩
    have hcauses := ht.1.travelCauses
    have hbegun (u : State) (st : Step) (b : Bool) : (u.beginStep st b).seq.interrupted = u.seq.interrupted := by
      unfold State.beginStep
      split <;> rfl
    unfold State.nextMove at hm
    split at hm
    · rcases State.endMove_cases hm with ⟨-, rfl⟩ | ⟨-, hne, -⟩ | ⟨-, hne, -⟩ | ⟨-, -, -, rfl⟩ | ⟨-, -, -, -, rfl⟩
      · exact (hbegun _ _ _).trans ht.2
      · exact absurd hcauses hne
      · exact absurd hcauses hne
      · exact ht.2
      · exact ht.2
    · obtain ⟨st, -, -, -, -, rfl⟩ := State.beginMove_cases hm
      exact (hbegun _ _ _).trans ht.2

/-- Taking a RESUME keeps a station calm. -/
theorem State.calm.resume {s : State} (hs : s.calm) : s.resume.calm := by
  refine State.calm_of_parts s.resume_still ?_ (fun _ h _ => ?_) hs
  · rcases s.resume_cases.2 with h | ⟨-, h⟩ <;> rw [h]
    rw [State.discardInterrupted_level]
  · refine (State.hoistTravel_of_step s.resume_still ?_).trans h
    rcases s.resume_cases.2 with h | ⟨-, h⟩ <;> rw [h]
    rw [State.discardInterrupted_step]

/-- A halted station without a live cause is resumed by a RESUME, which drops its interrupted step (R116, R122). -/
theorem State.resume_interrupted {s : State} (halted : s.halted = true) (hlive : s.halt.live = 0)
    (hstep : s.seq.step = none) : s.resume.seq.interrupted = none := by
  have hfree : ({ s with halt := s.halt.resumed s.own s.estopInput } : State).halted = false := by
    simp [State.halted, HaltRecord.resumed, hlive]
  unfold State.resume
  simp only [halted, hfree, Bool.not_false, Bool.and_self, if_true]
  unfold State.discardInterrupted
  simp only [hstep]

theorem HaltRecord.resumed_of_dead {h : HaltRecord} (hlive : h.live = 0) (own : Nat) (estop : Bool) :
    h.resumed own estop = {} := by
  rw [HaltRecord.resumed, if_pos (by simpa using hlive), ← hlive]

theorem HaltRecord.resumed_of_live {h : HaltRecord} (hlive : h.live ≠ 0) (own : Nat) (estop : Bool) :
    h.resumed own estop =
      { h with
        origins := h.origins &&& BitVec.twoPow 32 own
        firstOrigin := some own
        firstReason := some (.cause (if estop then .estop else .isolated))
        latched := 0 } := by
  rw [HaltRecord.resumed, if_neg (by simpa using hlive)]

/-- Settles O24: the record is what `State.resume` leaves of it, and no reaction of a calm station touches it. -/
theorem resumeClearsHaltRecord : Obligations.ResumeClearsHaltRecord := by
  intro s l sender seq mask hopen working fits calm low high other accepted taken
  let tel : Telegram := { sender := sender, seq := seq, body := .resume mask }
  obtain ⟨hhalt, hseq, -, -, hcfg, hinputs, hcalm⟩ :=
    State.noted_counted fits working (Machine.crc (encodeTelegram tel)) tel
  have hreceive := State.receive_of_accepted (t := tel) hopen working low high other accepted nofun nofun
  generalize hu : (s.counted l (Machine.crc (encodeTelegram tel))).noted tel = u at *
  have hown : u.own = s.own := congrArg StationConfig.station hcfg
  have hestop : u.estopInput = s.estopInput := by rw [State.estopInput, State.gi, hinputs, State.estopInput, State.gi]
  have htaken (h : taken) : u.handOn tel.sender.toNat tel.body = u.resume :=
    if_pos (by rw [hcfg, hown, Bool.and_eq_true, List.contains_iff_mem]; exact h)
  have hnot (h : ¬taken) : u.handOn tel.sender.toNat tel.body = u :=
    if_neg (by rw [hcfg, hown, Bool.and_eq_true, List.contains_iff_mem]; exact h)
  have hrecord (h : taken) : (s.receive l tel).halt = s.halt.resumed s.own s.estopInput := by
    rw [hreceive, htaken h, ((hcalm calm).resume.conclude s).1, u.resume_cases.1, hhalt, hown, hestop]
  refine ⟨_, rfl, fun h hlive => ?_, fun h hlive => ?_, fun h => ?_⟩
  · have hempty := (hrecord h).trans (HaltRecord.resumed_of_dead hlive _ _)
    refine ⟨hempty, by rw [State.halted, hempty]; rfl, fun halted hstep => ?_⟩
    rw [hreceive, htaken h]
    refine (hcalm calm).resume.conclude_interrupted (State.resume_interrupted ?_ (by rw [hhalt, hlive]) ?_) s
    · rw [State.halted, hhalt]
      exact halted
    · rw [hseq, hstep]
  · exact (hrecord h).trans (HaltRecord.resumed_of_live hlive _ _)
  · rw [hreceive, hnot h, ((hcalm calm).conclude s).1, hhalt]

/-! ### The own number -/

/-- Causes and origins present in a record stay through the sequencer's work, and so does the first of a halted one. -/
theorem State.sequenced_keeps_record {s : State} (held : Bool) (known : s.own < 32) (c : LocalCause) (n : Nat)
    (hc : s.halt.has c = true) (hn : maskHas s.halt.origins n = true) :
    (s.sequenced held).halt.has c = true ∧ maskHas (s.sequenced held).halt.origins n = true := by
  refine (State.sequenced_keeps
    (P := fun t => t.own = s.own ∧ t.halt.has c = true ∧ maskHas t.halt.origins n = true) (fun t ht => ?_)
    (fun t b r ht hm => ?_) ?_).2
  · rw [State.own_of_still t.settle_still, State.settle_halt]
    exact ht
  · refine State.nextMove_keeps
      (P := fun t => t.own = s.own ∧ t.halt.has c = true ∧ maskHas t.halt.origins n = true) (fun u st b hu => ?_)
      (fun u hu => hu) (fun u st hu => hu) (fun u hu => hu) (fun u d _ hu => ?_) ht hm
    · rw [State.own_of_still (u.beginStep_still st b), State.beginStep_halt]
      exact hu
    · obtain ⟨hown, hhas, horigin⟩ := hu
      refine ⟨(State.own_of_still (u.raiseCause_still d)).trans hown, ?_, ?_⟩
      · rw [State.raiseCause_halt, HaltRecord.has_raise, hhas, Bool.true_or]
      · rw [State.raiseCause_halt, HaltRecord.raise]
        split
        · exact horigin
        · rw [HaltRecord.addOrigin_origins, HaltRecord.put_origins, maskHas_maskAdd _ _ _ (hown ▸ known), horigin,
            Bool.true_or]
  · rw [State.own_of_still s.prepared_still, State.prepared_halt]
    exact ⟨rfl, hc, hn⟩

/-- Received bytes that spell a telegram spell a well-formed one (R161, R172). -/
theorem telegramMalformed_of_decode {bytes : List Byte} {t : Telegram} (h : decodeTelegram bytes = some t) :
    telegramMalformed t = false := by
  unfold decodeTelegram at h
  split at h
  next cls sender kind seq len body =>
    split at h
    · cases h
    next known =>
      simp only [Bool.or_eq_true, not_or, Bool.not_eq_true] at known
      obtain ⟨b, hb, rfl⟩ := Option.map_eq_some_iff.mp h
      unfold telegramMalformed
      rw [known.1.1, known.1.2]
      unfold decodeBody at hb
      split at hb
      case h_6 =>
        split at hb
        next hlength =>
          obtain rfl := Option.some.inj hb
          simp [hlength]
        next => cases hb
      case h_4 =>
        obtain ⟨status, -, rfl⟩ := Option.map_eq_some_iff.mp hb
        rfl
      case h_7 => cases hb
      all_goals
        obtain rfl := Option.some.inj hb
        rfl
  next => cases h

theorem telegramMalformed_of_valid {bytes : List Byte} {t : Telegram} (h : judgeReception bytes = .valid t) :
    telegramMalformed t = false := by
  unfold judgeReception at h
  split at h
  · cases h
  · split at h
    · cases h
    · split at h
      next u hu =>
        obtain rfl := Reception.valid.inj h
        exact telegramMalformed_of_decode hu
      next => cases h

theorem State.deliver_of_own {s : State} (l : Link) (captured : Nat) {t : Telegram}
    (formed : telegramMalformed t = false) (own : t.sender.toNat = s.own) :
    s.deliver l captured t = s.raiseCause .dupStation := by
  unfold State.deliver
  rw [if_neg (by simp [formed]), if_pos (by simpa using own)]

theorem State.raiseCause_step_kept (s : State) (c : LocalCause) :
    (s.raiseCause c).seq.step = s.seq.step ∨ (s.raiseCause c).seq.step = none := by
  rcases s.raiseCause_cases c with ⟨-, h⟩ | ⟨-, h⟩ <;> rw [h]
  · exact .inl rfl
  · rw [State.formHalt_seq]
    rcases State.addOrigin_cases { s with halt := s.halt.put c } s.own (.cause c) with ⟨-, h⟩ | ⟨-, -, hstep, -⟩
    · rw [h]
      exact .inl rfl
    · exact .inr hstep

theorem State.calm.raiseCause {s : State} (hs : s.calm) (c : LocalCause) : (s.raiseCause c).calm := by
  refine State.calm_of_parts (s.raiseCause_still c) (congrArg LevelStill.skew (s.raiseCause_level_still c))
    (fun _ h _ => ?_) hs
  rcases s.raiseCause_step_kept c with hstep | hstep
  · exact (State.hoistTravel_of_step (s.raiseCause_still c) hstep).trans h
  · exact State.hoistTravel_of_none hstep

/-- A cause that arises at a station not halted halts it, and nothing moves (R113, R114, R119). -/
theorem State.raiseCause_of_free {s : State} {c : LocalCause} (free : s.halted = false) (habsent : s.halt.has c = false)
    (hown : s.own < 32) :
    (s.raiseCause c).halt = { s.halt.put c with
      origins := BitVec.twoPow 32 s.own, firstOrigin := some s.own, firstReason := some (.cause c) } ∧
      (s.raiseCause c).stopped ∧ (s.raiseCause c).seq.journal = s.seq.journal := by
  have hput : ({ s with halt := s.halt.put c } : State).halted = false := by
    simpa [State.halted] using free
  obtain ⟨hhalt, ⟨halted, hstep, hmove, hzero⟩, hjournal⟩ := State.addOrigin_of_free hput hown (.cause c)
  rcases s.raiseCause_cases c with ⟨hp, -⟩ | ⟨-, h⟩
  · exact absurd (habsent.symm.trans hp) (by decide)
  · rw [h, State.stopped, State.resting, State.halted, State.formHalt_halt, State.formHalt_seq, State.formHalt_hand,
      State.formHalt_level]
    exact ⟨hhalt, ⟨halted, hstep, hmove, hzero⟩, hjournal⟩

/-- A cause that arises is present, with the own number among the origins. -/
theorem State.raiseCause_has {s : State} {c : LocalCause} (habsent : s.halt.has c = false) (hown : s.own < 32) :
    (s.raiseCause c).halt.has c = true ∧ maskHas (s.raiseCause c).halt.origins s.own = true := by
  rw [State.raiseCause_halt, HaltRecord.has_raise, HaltRecord.raise, if_neg (by simp [habsent]),
    HaltRecord.addOrigin_origins, maskHas_maskAdd _ _ _ hown]
  simp

/-- Settles O18: DUP_STATION arises (`State.raiseCause`), and the reactions only add to the record. -/
theorem ownNumberLatchesDupStation : Obligations.OwnNumberLatchesDupStation := by
  intro s l bytes tel hopen working fits hvalid own habsent
  have formed := telegramMalformed_of_valid hvalid
  have hhigh := (sender_known_of_wellFormed formed).2
  have hown' : s.own < 32 := by omega
  have hcounted := State.counted_parts fits working (Machine.crc (encodeTelegram tel))
  have hstill := s.counted_still l (Machine.crc (encodeTelegram tel))
  have hcounts (h : s.calm) := h.after_count fits working (Machine.crc (encodeTelegram tel))
  have hslot := State.counted_slot fits working (Machine.crc (encodeTelegram tel))
  have hcfg : (s.counted l (Machine.crc (encodeTelegram tel))).cfg = s.cfg := s.countValid_cfg l
  have hreceive : exec (.ownNumberTelegram l bytes) s = .next (State.conclude s
      ((s.counted l (Machine.crc (encodeTelegram tel))).raiseCause .dupStation)) := by
    rw [← State.deliver_of_own l (s.capturedPhase l) formed (own.trans (s.counted_own l _).symm),
      ← State.receive_of_working hopen working]
    simp only [exec, execOwnNumberTelegram, hvalid, own, BEq.rfl, if_true]
  generalize hu : s.counted l (Machine.crc (encodeTelegram tel)) = u at *
  obtain ⟨hhalt, hformer, -⟩ := hcounted
  have hown : u.own = s.own := congrArg StationConfig.station hcfg
  have habsent' : u.halt.has .dupStation = false := by rw [hhalt, habsent]
  obtain ⟨hhas, horigin⟩ := State.raiseCause_has habsent' (hown ▸ hown')
  have hknown : (u.raiseCause .dupStation).own < 32 := by
    rw [State.own_of_still (State.raiseCause_still _ _), hown]
    exact hown'
  rw [hown] at horigin
  obtain ⟨hhas', horigin'⟩ := State.sequenced_keeps_record
    (s.reversalStopped (u.raiseCause .dupStation)) hknown .dupStation s.own hhas horigin
  refine ⟨_, hreceive, ?_, ?_, ?_, fun free => ?_, fun mask waiting calm => ?_⟩
  · rw [State.conclude_still, State.raiseCause_still, hstill]
  · rw [State.conclude_halt]
    exact hhas'
  · rw [State.conclude_halt]
    exact horigin'
  · obtain ⟨hrecord, hstopped, -⟩ := State.raiseCause_of_free
      (by rw [State.halted, hhalt]; exact free) habsent' (hown ▸ hown')
    obtain ⟨hsame, -⟩ := hstopped.conclude s
    rw [hsame, hrecord, hown]
    exact ⟨rfl, rfl⟩
  · have hplaced := State.raiseCause_placed habsent' (hcfg ▸ mask) ⟨(hslot .a .haltcmd).trans waiting.1,
      (hslot .b .haltcmd).trans waiting.2⟩
    rw [hown, hformer, hcfg] at hplaced
    exact (((hcounts calm).raiseCause .dupStation).conclude s).2.placed (by decide) hplaced

/-! ### The ends of an attempt -/

theorem byte_succ_ne (b : Byte) : b + 1 ≠ b := by bv_omega

/-- At an event that forms no telegram the links stay (R155, R158). -/
theorem State.conclude_links_of_sequence {before after : State}
    (h : (after.sequenced (before.reversalStopped after)).mail = after.mail)
    (same : (State.conclude before after).former.sequence = after.former.sequence) (l : Link) :
    (State.conclude before after).link l = after.link l := by
  have hmail : (after.react (before.reversalStopped after)).mail = after.mail := by
    rw [State.react_eq]
    exact (State.followHandMove_mail _).trans h
  have hcases := State.conclude_cases before after
  generalize after.react (before.reversalStopped after) = r at hmail hcases
  generalize State.conclude before after = t at same hcases
  have hformer : r.former = after.former := congrArg Mail.former hmail
  have hlinks : r.link l = after.link l := by
    cases l
    · exact congrArg Mail.linkA hmail
    · exact congrArg Mail.linkB hmail
  rcases hcases with rfl | rfl
  · exact hlinks
  · rcases r.noteChange_cases before.bothFailed with hn | ⟨linked, hn⟩
    · rw [hn, ← hlinks]
      cases l <;> rfl
    · obtain ⟨-, hsequence, -⟩ := State.formStatus_formed linked
      rw [hn, hsequence, hformer] at same
      exact absurd same (byte_succ_ne _)

theorem LinkController.sent_parts (c : LinkController) (a : Attempt) : (c.sent a).still = c.still ∧
    (c.sent a).attempt = none ∧
    ∀ k, (c.sent a).slot k = if a.refilled = false ∧ k = a.slot then none else c.slot k := by
  unfold LinkController.sent
  cases hrefilled : a.refilled with
  | true => exact ⟨rfl, rfl, fun k => by cases k <;> simp [LinkController.slot]⟩
  | false =>
    refine ⟨?_, ?_, fun k => ?_⟩
    · cases a.slot <;> rfl
    · cases a.slot <;> rfl
    · simp only [Bool.false_eq_true, if_false, LinkController.slot_setSlot, true_and]
      cases k <;> rfl

theorem LinkController.judge_attempt {c : LinkController} (h : c.attempt = none) (n : Nat) :
    (c.judge n).attempt = none := by
  obtain ⟨-, -, -, -, ⟨-, -, hsilent⟩ | ⟨-, heq⟩⟩ := c.judge_cases n
  · simp only [LinkController.silent, Bool.and_eq_true, Option.isNone_iff_eq_none] at hsilent
    exact hsilent.2
  · rw [heq]
    exact h

/-- A link that sends is not FAILED (R160). -/
theorem LinkController.fits.working {c : LinkController} (hc : c.fits) {a : Attempt} (sending : c.attempt = some a) :
    c.failed = false := by
  obtain ⟨-, -, -, hdead, -⟩ := hc
  by_contra hfailed
  have hsilent := (hdead (by simpa [LinkController.failed] using hfailed)).2
  simp only [LinkController.silent, Bool.and_eq_true, Option.isNone_iff_eq_none] at hsilent
  exact absurd (sending.symm.trans hsilent.2) (by simp)

/-- Settles O27: the telegram leaves its slot (`LinkController.sent_parts`), the count falls, and the reactions of a calm
station fill the STATUS slots alone. -/
theorem attemptEnds : Obligations.AttemptEnds := by
  intro s l a running sending c
  obtain ⟨hstill, hidle, hslots⟩ := c.sent_parts a
  have hexec : exec (.attemptSent l) s = .next (State.conclude s ((s.setLink l (c.sent a)).linkGood l)) := by
    simp only [exec, execAttemptSent, State.attemptOn_eq_some_iff.mpr ⟨running, sending⟩, c]
  have good (fits : s.linksFit) : (s.setLink l (c.sent a)).linkGood l = s.setLink l { c.sent a with
      health := (c.sent a).health - 1, state := (c.sent a).state.judge ((c.sent a).health - 1) } := by
    have hfits := State.linksFit_link fits l
    have hworking := hfits.working sending
    have h := State.linkGood_of_fits (s := s.setLink l (c.sent a)) (l := l)
      (by rw [State.setLink_link, LinkController.failed_of_still hstill]; exact hworking)
      (by
        rw [State.setLink_link, show (c.sent a).state = c.state from congrArg LinkStill.state hstill,
          show (c.sent a).health = c.health from congrArg LinkStill.health hstill]
        exact hfits.good hworking)
    rwa [State.setLink_link, State.setLink_setLink] at h
  have after (fits : s.linksFit) (calm : s.calm) : ((s.setLink l (c.sent a)).linkGood l).calm ∧
      ∀ k, (((s.setLink l (c.sent a)).linkGood l).link l).slot k = (c.sent a).slot k := by
    rw [good fits, State.setLink_link]
    refine ⟨?_, fun k => by cases k <;> rfl⟩
    cases l <;> exact calm
  have hformer (fits : s.linksFit) : ((s.setLink l (c.sent a)).linkGood l).former = s.former := by
    rw [good fits]
    exact s.setLink_former l _
  refine ⟨⟨_, hexec, ?_, ?_, fun fits calm hslot => ?_, fun fits calm hslot hrefilled same => ?_⟩, ?_⟩
  · rw [State.conclude_still, State.linkGood_still, State.setLink_link, State.setLink_setLink]
    refine State.setLink_still_congr l rfl ?_
    rw [LinkController.still, LinkController.still, show (c.sent a).state = c.state from congrArg LinkStill.state hstill,
      show (c.sent a).health = c.health from congrArg LinkStill.health hstill,
      show (c.sent a).captured = c.captured from congrArg LinkStill.captured hstill,
      show (c.sent a).silence = c.silence from congrArg LinkStill.silence hstill]
  · have hjudged := (State.setHealth_filled (s.setLink l (c.sent a)) l ((c.sent a).health - 1)).link l
    rw [State.setLink_link, State.setLink_link] at hjudged
    obtain ⟨-, hattempt, -⟩ := hjudged
    obtain ⟨-, hattempt', -⟩ := (State.conclude_filled s ((s.setLink l (c.sent a)).linkGood l)).link l
    rw [State.linkGood, State.setLink_link] at hattempt'
    rw [hattempt, LinkController.judge_attempt hidle] at hattempt'
    exact Option.isNone_iff_eq_none.mp (by simpa [State.linkGood] using hattempt')
  · rw [((after fits calm).1.conclude s).2.slot (by simpa using hslot), (after fits calm).2, hslots]
    cases a.refilled <;> simp
  · have hlink := State.conclude_links_of_sequence ((after fits calm).1.sequenced _).2
      (same.trans (congrArg Former.sequence (hformer fits)).symm) l
    have hstatus := (after fits calm).2 .status
    rw [hslots, if_pos ⟨hrefilled, hslot.symm⟩] at hstatus
    exact (congrArg LinkController.status hlink).trans hstatus
  · simp only [exec, execAttemptLostContention, State.attemptOn_eq_some_iff.mpr ⟨running, sending⟩, c]

end Sys2Proof.Machine

/-!
PROOFS. Stations halted by a local cause: what a cause that arises at the event or in its reactions leaves, ESTOP (O11), the
desk's buttons (O12, O13), the debounced inputs (O10) and the missed deadlines (O29).
-/

namespace Sys2Proof.Machine

/-! ### A station halted by a cause -/

/-- The sequencer of a station that a cause halts: the step in progress is interrupted (R44, R119). -/
theorem State.raiseCause_seq_of_free {s : State} {c : LocalCause} (free : s.halted = false)
    (habsent : s.halt.has c = false) : (s.raiseCause c).seq = s.interruptStep.seq := by
  have hput : ({ s with halt := s.halt.put c } : State).halted = false := by
    simpa [State.halted] using free
  rw [State.raiseCause_of_absent habsent, State.formHalt_seq, State.caused, State.addOrigin, if_neg (by simp [hput])]
  unfold State.stopMotion State.interruptStep
  dsimp only
  split <;> rfl

theorem State.raiseCause_inRecovery (s : State) (c : LocalCause) : (s.raiseCause c).inRecovery = s.inRecovery := by
  rw [State.inRecovery, State.inRecovery, State.role_of_still (s.raiseCause_still c),
    show (s.raiseCause c).signal.recovering = s.signal.recovering from
      congrArg Unmoved.recovering (s.raiseCause_unmoved c)]

theorem HaltRecord.put_of_live {c : LocalCause} (hc : c.isLive = true) (h : HaltRecord) :
    h.put c = { h with live := causeAdd h.live c } := if_pos hc

theorem HaltRecord.put_of_latched {c : LocalCause} (hc : c.isLive = false) (h : HaltRecord) :
    h.put c = { h with latched := causeAdd h.latched c } := if_neg (by simp [hc])

/-- The end of an event at a halted station between steps: its record stays, and no HALT is formed. -/
theorem State.conclude_of_halted {after : State} (halted : after.halted = true) (hstep : after.seq.step = none)
    (before : State) :
    (State.conclude before after).halt = after.halt ∧ after.Filled [.status] (State.conclude before after) := by
  have hsequenced := State.sequenced_of_halted halted hstep (before.reversalStopped after)
  refine ⟨?_, State.conclude_filled_status ?_⟩
  · rw [State.conclude_halt, hsequenced, State.settle_halt, State.prepared_halt]
  · rw [hsequenced, State.settle_mail, State.prepared_mail]

/-! ### ESTOP -/

/-- The state with an input's debounced level taken from its candidate (R169). -/
def State.recognized (s : State) (i : Fin 16) : State :=
  s.setInput i { s.inputs[i] with level := s.inputs[i].candidate, timer := .stopped }

/-- An input recognized as changed at a running station. -/
theorem exec_debounceExpiry_of_changed {s : State} {i : Fin 16} (encoder : Option Word16) (running : s.isRunning = true)
    (due : s.inputs[i].timer.due s.clock = true) (changed : s.inputs[i].level ≠ s.inputs[i].candidate) :
    exec (.debounceExpiry i encoder) s =
      .next (State.conclude s ((s.recognized i).inputChanged i s.inputs[i].candidate encoder)) := by
  have hdebouncing : s.debouncing = true := by simp [State.debouncing, running]
  refine congrArg Host.Outcome.next ((if_pos ?_).trans ((if_pos running).trans (if_neg ?_)))
  · rw [hdebouncing, due]
    rfl
  · rwa [beq_iff_eq]

/-- An input whose debounced level becomes `active` at a running station. -/
theorem exec_debounceExpiry_becomes {s : State} (i : Fin 16) {active : Bool} (encoder : Option Word16)
    (running : s.isRunning = true) (due : s.inputs[i].timer.due s.clock = true)
    (hcandidate : s.inputs[i].candidate = active) (hlevel : s.inputs[i].level = !active) :
    exec (.debounceExpiry i encoder) s =
      .next (State.conclude s ((s.recognized i).inputChanged i active encoder)) := by
  have h := exec_debounceExpiry_of_changed encoder running due (by rw [hlevel, hcandidate]; cases active <;> decide)
  rwa [hcandidate] at h

/-- Settles O11: ESTOP is a live cause that arises (`State.raiseCause_of_free`), and no reaction moves a halted
station. -/
theorem estopHaltsStation : Obligations.EstopHaltsStation := by
  intro s encoder running due low high
  have hown : (s.recognized 0).own < 32 := show s.own < 32 by omega
  have hactive : (s.recognized 0).inputChanged 0 true encoder = (s.recognized 0).raiseCause .estop := rfl
  have hinactive : (s.recognized 0).inputChanged 0 false encoder = (s.recognized 0).removeLive .estop := rfl
  refine ⟨fun hcandidate hlevel free habsent hrecovery => ?_, fun hcandidate hlevel halted habsent hstep => ?_,
    fun hcandidate hlevel halted hstep => ?_⟩
  · have hexec := exec_debounceExpiry_becomes 0 encoder running due hcandidate hlevel
    rw [hactive] at hexec
    obtain ⟨hrecord, hstopped, hjournal⟩ := State.raiseCause_of_free (s := s.recognized 0) free habsent hown
    have hseq := State.raiseCause_seq_of_free (s := s.recognized 0) free habsent
    have hrecovery' : ((s.recognized 0).raiseCause .estop).inRecovery = false :=
      (State.raiseCause_inRecovery _ _).trans hrecovery
    have hhand : ((s.recognized 0).raiseCause .estop).hand.state = s.hand.state := State.raiseCause_handState _ _
    obtain ⟨hhalt, -, ⟨hstep, hmove, -⟩, hrest, hfilled, -, -, -, hjournal', hsame⟩ := hstopped.conclude s
    refine ⟨_, hexec, ?_, hrest, hstep, hmove, (hjournal' hrecovery').trans hjournal, fun p hp hoff => ?_,
      fun mask waiting linked => ?_⟩
    · exact hhalt.trans hrecord
    · have ht := (hsame hrecovery' (by rw [hhand, hoff]; decide)).trans hseq
      rcases (s.recognized 0).interruptStep_cases with ⟨hnone, -⟩ | ⟨q, hq, -, hinterrupted, hsupervision, -⟩
      · exact absurd (hp.symm.trans hnone) (by simp)
      · obtain rfl : p = q := Option.some.inj (hp.symm.trans hq)
        exact ⟨(congrArg Sequencer.interrupted ht).trans hinterrupted,
          (congrArg Sequencer.supervision ht).trans hsupervision⟩
    · exact hfilled.placed (by decide) (State.raiseCause_placed (s := s.recognized 0) habsent mask waiting)
  · have hexec := exec_debounceExpiry_becomes 0 encoder running due hcandidate hlevel
    rw [hactive] at hexec
    have hraised : ((s.recognized 0).raiseCause .estop).halt =
        { s.halt with origins := s.halt.origins ||| BitVec.twoPow 32 s.own,
                      live := causeAdd s.halt.live .estop } := by
      rw [State.raiseCause_halt]
      show s.halt.raise s.own .estop = _
      rw [HaltRecord.raise, if_neg (by simp [habsent]), HaltRecord.put_of_live rfl, HaltRecord.addOrigin,
        if_pos (show (s.halt.origins != 0) = true from halted)]
      rfl
    have hhalted : ((s.recognized 0).raiseCause .estop).halted = true := by
      rw [State.halted, hraised, bne_iff_ne]
      exact maskAdd_ne_zero _ hown
    have hnone : ((s.recognized 0).raiseCause .estop).seq.step = none := by
      rcases (s.recognized 0).raiseCause_step_kept .estop with h | h
      · exact h.trans hstep
      · exact h
    obtain ⟨hhalt, hfilled⟩ := State.conclude_of_halted hhalted hnone s
    exact ⟨_, hexec, hhalt.trans hraised, fun mask waiting linked =>
      hfilled.placed (by decide) (State.raiseCause_placed (s := s.recognized 0) habsent mask waiting)⟩
  · have hexec := exec_debounceExpiry_becomes 0 encoder running due hcandidate hlevel
    rw [hinactive] at hexec
    exact ⟨_, hexec, (State.conclude_of_halted (after := (s.recognized 0).removeLive .estop) halted hstep s).1⟩

/-! ### The desk -/

theorem State.calm_of_desk {s : State} (h : s.role = .desk) : s.calm := .inl (by simp [h])

theorem State.recognized_still (s : State) (i : Fin 16) : (s.recognized i).still =
    { s.still with inputs := s.inputs.set i { s.inputs[i] with level := s.inputs[i].candidate, timer := .stopped } } :=
  rfl

theorem State.issued_still (s : State) (k : DemandKind) :
    (s.issued k).still = { s.still with adopted := some (s.nextDemand k), counter := s.nextNumber } := by
  rw [State.issued, State.adopt_still]
  rfl

/-- Settles O12, by the cases of a press. -/
theorem deskIssuesDemand : Obligations.DeskIssuesDemand := by
  intro s i k encoder running desk hi due hcandidate hlevel n kind still
  have hexec := exec_debounceExpiry_becomes i encoder running due hcandidate hlevel
  have hpress : (s.recognized i).inputChanged i true encoder = (s.recognized i).pressDemand k := by
    have hrole : (s.recognized i).role = .desk := desk
    rcases hi with ⟨rfl, rfl⟩ | ⟨rfl, rfl⟩
    · show (s.recognized 2).buttonChanged .up .openBridge true = _
      simp only [State.buttonChanged, hrole, if_true]
    · show (s.recognized 3).buttonChanged .down .closeBridge true = _
      simp only [State.buttonChanged, hrole, if_true]
  have hstill : (s.recognized i).still = still := by rw [State.recognized_still, hcandidate]
  have hconcluded := State.conclude_still s ((s.recognized i).pressDemand k)
  have hfilled := State.conclude_filled s ((s.recognized i).pressDemand k)
  rw [hpress] at hexec
  rcases (s.recognized i).pressDemand_cases k with ⟨hkind, h⟩ | ⟨hkind, hnumber, h⟩ | ⟨hkind, hnumber, h⟩ <;>
    rw [h] at hconcluded hfilled <;> rw [h] at hexec <;> refine ⟨_, hexec, fun hne hle => ?_, fun heq => ?_, fun hne hlt => ?_⟩
  · exact absurd hkind hne
  · exact hconcluded.trans hstill
  · exact absurd hkind hne
  · exact absurd hnumber (Nat.not_lt.mpr hle)
  · exact absurd heq hkind
  · exact hconcluded.trans (congrArg (fun x : Still => { x with exhausted := true }) hstill)
  · refine ⟨?_, ?_⟩
    · rw [hconcluded, State.formTelegram_still, State.issued_still, hstill]
      rfl
    · have hmail := (s.recognized i).issued_mail k
      have hplaced := ((s.recognized i).issued k).formTelegram_placed .demand
        (.demand k.code (BitVec.ofNat 16 (s.recognized i).nextNumber))
      rw [show ((s.recognized i).issued k).former = s.former from congrArg Mail.former hmail] at hplaced
      refine hfilled.placed (by decide) ?_
      have hown : ((s.recognized i).issued k).own = s.own :=
        congrArg (fun x : Still => x.cfg.station) ((s.recognized i).issued_still k)
      rw [hown] at hplaced
      exact hplaced
  · exact absurd heq hkind
  · exact absurd hlt (Nat.not_lt.mpr hnumber)

theorem State.formResume_placed {s : State} (linked : s.bothFailed = false) (free : s.noHaltWaiting) :
    s.formResume.placed .haltcmd
      { sender := byteOf s.own, seq := s.former.sequence, body := .resume s.cfg.haltMask } := by
  obtain ⟨ha, hb⟩ := free
  have hmask : s.cfg.haltMask ||| s.linkA.resumeMaskWaiting ||| s.linkB.resumeMaskWaiting = s.cfg.haltMask := by
    simp [LinkController.resumeMaskWaiting, ha, hb]
  rw [State.formResume_eq linked, hmask]
  exact State.formTelegram_placed _ _ _

theorem State.noHaltWaiting_of_mail {s t : State} (h : t.mail = s.mail) (hs : s.noHaltWaiting) : t.noHaltWaiting := by
  have ha : t.linkA = s.linkA := congrArg Mail.linkA h
  have hb : t.linkB = s.linkB := congrArg Mail.linkB h
  rwa [State.noHaltWaiting, ha, hb]

theorem State.calm_of_still_desk {s t : State} (desk : s.role = .desk) (h : t.still = s.still) : t.calm :=
  State.calm_of_desk ((State.role_of_still h).trans desk)

/-- Settles O13: HALT raises OPERATOR or forms its HALT again, RESUME clears the record and forms a RESUME, and a desk is
calm. -/
theorem deskHaltAndResume : Obligations.DeskHaltAndResume := by
  intro s encoder running desk low high
  refine ⟨fun due hcandidate hlevel => ?_, fun due hcandidate hlevel => ?_⟩
  · have hexec := exec_debounceExpiry_becomes 4 encoder running due hcandidate hlevel
    have hpress : (s.recognized 4).inputChanged 4 true encoder = (s.recognized 4).pressHalt := by
      have hrole : (s.recognized 4).role = .desk := desk
      show (if (s.recognized 4).role == .desk && true then _ else _) = _
      rw [hrole]
      rfl
    rw [hpress] at hexec
    have hown : (s.recognized 4).own < 32 := show s.own < 32 by omega
    cases hhas : s.halt.has .operator with
    | true =>
      have hformed : (s.recognized 4).pressHalt = (s.recognized 4).formHalt (.cause .operator) := if_pos hhas
      rw [hformed] at hexec
      have hcalm : ((s.recognized 4).formHalt (.cause .operator)).calm :=
        State.calm_of_still_desk (s := s.recognized 4) desk (State.formHalt_still _ _)
      obtain ⟨hhalt, hfilled⟩ := hcalm.conclude s
      rw [State.formHalt_halt] at hhalt
      refine ⟨_, hexec, ?_, (fun h => by cases h), fun _ => hhalt, fun mask waiting linked => ?_⟩
      · rw [hhalt, ← HaltRecord.has_of_latched _ rfl]
        exact hhas
      · exact hfilled.placed (by decide) (State.formHalt_placed (s := s.recognized 4) mask waiting _)
    | false =>
      have hraised : (s.recognized 4).pressHalt = (s.recognized 4).raiseCause .operator :=
        if_neg (by rw [show (s.recognized 4).halt = s.halt from rfl, hhas]; decide)
      rw [hraised] at hexec
      have hcalm : ((s.recognized 4).raiseCause .operator).calm :=
        State.calm_of_still_desk (s := s.recognized 4) desk (State.raiseCause_still _ _)
      obtain ⟨hhalt, hfilled⟩ := hcalm.conclude s
      obtain ⟨hpresent, horigin⟩ := State.raiseCause_has (s := s.recognized 4) hhas hown
      refine ⟨_, hexec, ?_, fun _ => ⟨?_, fun free => ?_⟩, (fun h => by cases h), fun mask waiting linked => ?_⟩
      · rw [hhalt, ← HaltRecord.has_of_latched _ rfl]
        exact hpresent
      · rw [hhalt]
        exact horigin
      · obtain ⟨hrecord, -⟩ := State.raiseCause_of_free (s := s.recognized 4) free hhas hown
        rw [hhalt, hrecord]
        exact ⟨rfl, rfl⟩
      · exact hfilled.placed (by decide) (State.raiseCause_placed (s := s.recognized 4) hhas mask waiting)
  · have hexec := exec_debounceExpiry_becomes 5 encoder running due hcandidate hlevel
    have hpress : (s.recognized 5).inputChanged 5 true encoder = (s.recognized 5).pressResume := by
      have hrole : (s.recognized 5).role = .desk := desk
      show (if (s.recognized 5).role == .desk && true then _ else _) = _
      rw [hrole]
      rfl
    rw [hpress] at hexec
    have hstill : (s.recognized 5).pressResume.still = (s.recognized 5).still := by simp [State.pressResume]
    obtain ⟨hhalt, hfilled⟩ := (State.calm_of_still_desk (s := s.recognized 5) desk hstill).conclude s
    have hestop : (s.recognized 5).estopInput = s.estopInput := by
      simp [State.estopInput, State.gi, State.recognized]
    rw [State.pressResume_halt, hestop] at hhalt
    have hrecord : (State.conclude s (s.recognized 5).pressResume).halt = s.halt.resumed s.own s.estopInput := hhalt
    refine ⟨_, hexec, fun hlive => ?_, fun hlive => ?_, fun waiting linked => ?_⟩
    · have hempty := hrecord.trans (HaltRecord.resumed_of_dead hlive _ _)
      exact ⟨hempty, by rw [State.halted, hempty]; rfl⟩
    · exact hrecord.trans (HaltRecord.resumed_of_live hlive _ _)
    · have hmail := (s.recognized 5).resume_mail
      have hresumed := (s.recognized 5).resume_still
      have hplaced := State.formResume_placed (s := (s.recognized 5).resume)
        ((State.bothFailed_of_still hresumed).trans linked) (State.noHaltWaiting_of_mail hmail waiting)
      rw [State.own_of_still hresumed, show (s.recognized 5).resume.former = s.former from congrArg Mail.former hmail,
        State.cfg_of_still hresumed] at hplaced
      exact hfilled.placed (by decide) hplaced

end Sys2Proof.Machine

/-!
PROOFS. A hoist's travel halted by one cause, at the event or in its reactions (`State.travelHaltedBy`); the debounced
inputs (O10) and the missed deadlines (O29).
-/

namespace Sys2Proof.Machine

/-! ### A hoist halted in travel -/

/-- The station `w` is `s` just halted in its travel by a latched cause, before the sequencer settles (R114, R119). -/
structure State.HaltedFrom (s w : State) (c : LocalCause) : Prop where
  stopped : w.stopped
  halt : w.halt = { s.halt with
    origins := BitVec.twoPow 32 s.own, firstOrigin := some s.own, firstReason := some (.cause c),
    latched := causeAdd s.halt.latched c }
  stopping : w.seq.stopping = false
  journal : w.seq.journal = s.seq.journal
  handState : w.hand.state = s.hand.state
  interrupted : w.seq.interrupted = s.stepNow
  placed : s.cfg.haltMask ≠ 0 → s.noHaltWaiting → s.bothFailed = false → w.placed .haltcmd
    { sender := byteOf s.own, seq := s.former.sequence, body := .halt s.cfg.haltMask (HaltReason.cause c).code }

/-- What the raising of a cause reads of a station: a station that agrees in it is halted alike. -/
structure State.Alike (s x : State) : Prop where
  own : x.own = s.own
  mask : x.cfg.haltMask = s.cfg.haltMask
  halt : x.halt = s.halt
  step : x.seq.step = s.seq.step
  journal : x.seq.journal = s.seq.journal
  handState : x.hand.state = s.hand.state
  sequence : x.former.sequence = s.former.sequence
  waiting : s.noHaltWaiting → x.noHaltWaiting

theorem State.interruptStep_of_some {s : State} {p : StepInProgress} (h : s.seq.step = some p) :
    s.interruptStep.seq.stopping = false ∧ s.interruptStep.seq.journal = s.seq.journal ∧
      s.interruptStep.seq.interrupted = some p.step := by
  unfold State.interruptStep
  simp only [h]
  exact ⟨rfl, rfl, trivial⟩

/-- A latched cause that arises at a station like `s`, in travel and not halted, halts it. -/
theorem State.Alike.haltedFrom {s x : State} (h : s.Alike x) {c : LocalCause} (latched : c.isLive = false)
    (free : s.halted = false) (habsent : s.halt.has c = false) (known : s.own < 32) (hstep : s.seq.step ≠ none) :
    s.HaltedFrom (x.raiseCause c) c := by
  obtain ⟨p, hp⟩ := Option.ne_none_iff_exists'.mp hstep
  have hfree : x.halted = false := by rw [State.halted, h.halt]; exact free
  have habsent' : x.halt.has c = false := h.halt ▸ habsent
  obtain ⟨hrecord, hstopped, hjournal⟩ := State.raiseCause_of_free hfree habsent' (h.own ▸ known)
  have hseq := State.raiseCause_seq_of_free hfree habsent'
  obtain ⟨hstopping, -, hinterrupted⟩ := State.interruptStep_of_some (h.step.trans hp)
  rw [← hseq] at hstopping hinterrupted
  refine ⟨hstopped, ?_, hstopping, ?_, (x.raiseCause_handState c).trans h.handState, ?_, fun mask waiting _ => ?_⟩
  · rw [hrecord, HaltRecord.put_of_latched latched, h.halt, h.own]
  · rw [hjournal, h.journal]
  · rw [hinterrupted, State.stepNow, hp]
    rfl
  · have hplaced := State.raiseCause_placed habsent' (h.mask ▸ mask) (h.waiting waiting)
    rwa [h.own, h.sequence, h.mask] at hplaced

theorem State.HaltedFrom.prepared {s w : State} {c : LocalCause} (h : s.HaltedFrom w c) (recovered : w.inRecovery = false) :
    s.HaltedFrom w.prepared c := by
  have hseq := State.prepared_seq recovered
  obtain ⟨⟨halted, hstep, hmove, hzero⟩, hhalt, hstopping, hjournal, hstate, hinterrupted, hplaced⟩ := h
  refine ⟨⟨by rw [State.prepared_halted, halted], by rw [hseq, hstep], by rw [State.prepared_hand, hmove],
    by rw [State.prepared_level, hzero]⟩, by rw [State.prepared_halt, hhalt], by rw [hseq, hstopping],
    by rw [hseq, hjournal], by rw [State.prepared_hand, hstate], by rw [hseq, hinterrupted], fun mask waiting linked => ?_⟩
  exact (State.Filled.of_mail (kinds := []) w.prepared_mail).placed (by simp) (hplaced mask waiting linked)

/-- The end of an event that leaves the station so halted and settled is the halt of its travel. -/
theorem State.HaltedFrom.travelHaltedBy {s w before after : State} {c : LocalCause} (h : s.HaltedFrom w c)
    (hworked : after.sequenced (before.reversalStopped after) = w.settle)
    (hfilled : w.Filled [.status] (State.conclude before after)) {code : Byte}
    (hcode : (HaltReason.cause c).code = code) : s.travelHaltedBy (State.conclude before after) c code := by
  obtain ⟨⟨halted, hstep, hmove, hzero⟩, hhalt, hstopping, hjournal, hstate, hinterrupted, hplaced⟩ := h
  obtain ⟨hjournal', hstopping', hmove', hsame⟩ := w.settle_keeps
  have hrest : after.worked (before.reversalStopped after) = w.settle := by
    rw [State.worked, hworked]
    exact State.followHandMove_of_none (hmove'.trans hmove)
  have hthalt : (State.conclude before after).halt = w.halt := by
    rw [State.conclude_halt, hworked, State.settle_halt]
  have hseq := State.conclude_seq before after
  have hhoist := State.conclude_hoist before after
  have hlevel := State.conclude_level before after
  rw [hrest] at hseq hhoist hlevel
  generalize State.conclude before after = t at *
  have hthalted : t.halted = true := by rw [State.halted, hthalt]; exact halted
  refine ⟨hthalt.trans hhalt, ?_, ?_, ?_, State.atRest_of_halted hthalted ?_, ?_, fun hoff => ?_,
    fun mask waiting linked => ?_⟩
  · rw [hseq, State.settle_seq_step, hstep]
  · rw [hseq, hstopping', hstopping]
  · rw [hseq, hjournal', hjournal]
  · rw [hlevel, State.settle_level, hzero]
  · rw [hhoist, State.settle_of_halted halted hstep]
  · rw [hseq, (hsame (by rw [hstate, hoff]; decide)).1, hinterrupted]
  · rw [← hcode]
    exact hfilled.placed (by decide) (hplaced mask waiting linked)

/-- A cause raised at the event itself halts travel. -/
theorem State.travelHaltedBy_of_raised {s x before : State} (h : s.Alike x) {c : LocalCause}
    (latched : c.isLive = false) (free : s.halted = false) (habsent : s.halt.has c = false) (known : s.own < 32)
    (hstep : s.seq.step ≠ none) (recovered : x.inRecovery = false) {code : Byte}
    (hcode : (HaltReason.cause c).code = code) : s.travelHaltedBy (State.conclude before (x.raiseCause c)) c code := by
  have hhalted := h.haltedFrom latched free habsent known hstep
  have hsequenced := State.sequenced_of_halted hhalted.stopped.1 hhalted.stopped.2.1
    (before.reversalStopped (x.raiseCause c))
  obtain ⟨-, -, -, -, hfilled, -⟩ := hhalted.stopped.conclude before
  exact (hhalted.prepared ((x.raiseCause_inRecovery c).trans recovered)).travelHaltedBy hsequenced
    ((State.Filled.of_mail (x.raiseCause c).prepared_mail.symm).trans hfilled) hcode

/-- With a step in progress at a station not halted there is nothing to settle. -/
theorem State.settle_of_step {s : State} (free : s.halted = false) (hstep : s.seq.step ≠ none) : s.settle = s := by
  have hsome : s.seq.step.isNone = false := by simpa [Option.isSome_iff_ne_none] using hstep
  have hgrant : s.grantHand = s := by
    unfold State.grantHand
    rw [hsome, free, Bool.or_self, Bool.and_false, if_neg (by decide)]
  unfold State.settle
  simp only [hgrant, hsome, Bool.false_eq_true, if_false]

theorem State.hoist_of_travel {s : State} (h : s.hoistTravel = true) : s.role = .hoist ∧
    ∃ d, s.doing .raise d = true ∧ s.stepNow = some { kind := .raise, dir := d } := by
  simp only [State.hoistTravel, Bool.and_eq_true, Bool.or_eq_true, beq_iff_eq] at h
  refine ⟨h.1, ?_⟩
  rcases h.2 with hd | hd
  · exact ⟨_, hd, beq_iff_eq.mp hd⟩
  · exact ⟨_, hd, beq_iff_eq.mp hd⟩

/-- A hoist in travel, no completion of which is due (R82, R84). -/
def State.midway (s : State) : Prop :=
  s.hoistTravel = true ∧ (s.seq.stopping = false →
    (s.doing .raise .forward = true → s.level.height + s.cfg.stopBand < s.cfg.hTop) ∧
    (s.doing .raise .inverse = true → s.seatedInput = false))

theorem State.midway.completion {s : State} (h : s.midway) {st : Step} (hst : s.stepNow = some st) :
    s.completionCondition st = false := by
  obtain ⟨htravel, hmidway⟩ := h
  obtain ⟨-, d, hdoing, hstep⟩ := State.hoist_of_travel htravel
  obtain rfl := Option.some.inj (hst.symm.trans hstep)
  cases hstopping : s.seq.stopping with
  | true => simp [State.completionCondition, hstopping]
  | false =>
    obtain ⟨hup, hdown⟩ := hmidway hstopping
    cases d
    · have := hup hdoing
      simp only [State.completionCondition, hstopping, Bool.not_false, Bool.true_and, decide_eq_false_iff_not]
      omega
    · simp [State.completionCondition, hdown hdoing]

/-- The end of an event forms at most a STATUS after what the sequencer's work has formed. -/
theorem State.conclude_filled_of_sequenced {before after w : State}
    (h : (after.sequenced (before.reversalStopped after)).mail = w.mail) :
    w.Filled [.status] (State.conclude before after) := by
  have hmail : (after.react (before.reversalStopped after)).mail = w.mail := by
    rw [State.react_eq]
    exact (State.followHandMove_mail _).trans h
  rcases State.conclude_cases before after with hc | hc <;> rw [hc]
  · exact .of_mail hmail
  · exact (State.Filled.of_mail hmail).trans (State.noteChange_filled _ _)

/-- A hoist in travel that meets one cause in the reactions is halted by it (R82, R87, R88, R119). -/
theorem State.travelHaltedBy_of_met {s after before : State} (h : s.Alike after) {c : LocalCause}
    (met : after.travelCauses = [c]) (midway : after.midway) (free : s.halted = false)
    (habsent : s.halt.has c = false) (known : s.own < 32) {code : Byte} (hcode : (HaltReason.cause c).code = code) :
    s.travelHaltedBy (State.conclude before after) c code := by
  obtain ⟨htravel, -⟩ := id midway
  obtain ⟨hrole, d, -, hst⟩ := State.hoist_of_travel htravel
  have hstep : after.seq.step ≠ none := State.step_ne_none_of_hoistTravel htravel
  have latched : c.isLive = false := (State.travelCauses_ofTravel (c := c) (by rw [met]; simp)).latched
  have recovered : after.inRecovery = false := State.inRecovery_of_role (by simp [hrole])
  have hseq := State.prepared_seq recovered
  have hstill := after.prepared_still
  have hmail := after.prepared_mail
  have hprepared : s.Alike after.prepared :=
    ⟨(State.own_of_still hstill).trans h.own, by rw [State.cfg_of_still hstill, h.mask],
      by rw [State.prepared_halt, h.halt], by rw [hseq, h.step], by rw [hseq, h.journal],
      by rw [State.prepared_hand, h.handState],
      by rw [State.prepared_former, h.sequence], fun hw => State.noHaltWaiting_of_mail hmail (h.waiting hw)⟩
  have hfree : after.prepared.halted = false := by
    rw [State.halted, hprepared.halt]
    exact free
  have hsettled : after.prepared.settle = after.prepared := State.settle_of_step hfree (by rw [hseq]; exact hstep)
  have hmidway : after.prepared.midway := by
    have hstop : after.prepared.seq.stopping = after.seq.stopping := after.prepared_stopping
    rw [State.midway, State.hoistTravel_of_step hstill after.prepared_step, hstop, State.prepared_doing,
      State.prepared_doing, State.prepared_level, State.cfg_of_still hstill,
      show after.prepared.seatedInput = after.seatedInput from State.gi_of_still hstill 4]
    exact ‹after.midway›
  have hhalted := hprepared.haltedFrom latched free habsent known (h.step ▸ hstep)
  have hmove (held : Bool) : after.prepared.settle.nextMove held false = some (false, after.prepared.raiseCause c) := by
    have hst' : after.prepared.stepNow = some { kind := .raise, dir := d } := after.prepared_stepNow.trans hst
    have hgreen : after.prepared.greenLost = false := by
      simp [State.greenLost, State.role_of_still hstill, hrole]
    have hmet : after.prepared.travelCauses = [c] :=
      (State.travelCauses_of_step hstill after.prepared_step).trans met
    rw [hsettled, State.nextMove, hst']
    simp [State.endMove, hgreen, hmet, hmidway.completion hst', State.raiseCauses]
  have hsequenced (held : Bool) : after.sequenced held = (after.prepared.raiseCause c).settle :=
    State.sequenced_of_one_move (hmove held) (State.nextMove_of_halted
      (by rw [State.settle_halted]; exact hhalted.stopped.1)
      (by rw [State.settle_seq_step]; exact hhalted.stopped.2.1) held false)
  refine hhalted.travelHaltedBy (hsequenced _) (State.conclude_filled_of_sequenced ?_) hcode
  rw [hsequenced, State.settle_mail]

/-! ### The debounced inputs -/

theorem State.travelCauses_nil_iff {s : State} (h : s.hoistTravel = true) : s.travelCauses = [] ↔
    (s.doing .raise .forward && s.topLimit) = false ∧ s.hoistPeersTracked = true ∧ s.hoistPeerStopped = false := by
  unfold State.travelCauses
  rw [if_pos h]
  cases s.doing .raise .forward && s.topLimit <;> cases s.hoistPeersTracked <;> cases s.hoistPeerStopped <;> simp

theorem State.travelsFreely.midway {s : State} {c : LocalCause} (h : s.travelsFreely c) : s.midway := by
  obtain ⟨-, htravel, -, -, -, -, -, hmidway⟩ := h
  exact ⟨htravel, hmidway⟩

/-- An input line other than those of the hand panel and of the desk touches no part that the reactions leave. -/
theorem State.inputChanged_still_of_line {i : Fin 16} (hi : i = 0 ∨ 6 ≤ i) (s : State) (active : Bool)
    (encoder : Option Word16) : (s.inputChanged i active encoder).still = s.still := by
  have hdetector (k : Nat) : (s.detectorChanged k active).still = s.still := by
    unfold State.detectorChanged
    split <;> rfl
  have hline : i.val = 0 ∨ 6 ≤ i.val := hi.imp (congrArg Fin.val) id
  unfold State.inputChanged
  split
  case h_1 =>
    split
    · exact s.raiseCause_still _
    · rfl
  case h_2 | h_3 | h_4 | h_5 | h_6 => omega
  case h_7 | h_8 | h_9 | h_10 => exact hdetector _
  case h_11 => rfl

theorem State.zoneFlag_of_sequenced (before after : State) :
    (State.conclude before after).zoneFlag = after.zoneFlag ∨
      (State.conclude before after).zoneFlag = after.zoneOccupied := by
  have hreact : (after.react (before.reversalStopped after)).zoneFlag = after.zoneFlag := by
    rw [State.react_worked]
    exact (congrArg Unmoved.zoneFlag (State.worked_unmoved _ after)).trans after.prepared_zoneFlag
  have hstill := after.react_still (before.reversalStopped after)
  have hcases := State.conclude_cases before after
  generalize after.react (before.reversalStopped after) = r at hreact hstill hcases
  rcases hcases with h | h <;> rw [h]
  · exact .inl hreact
  · rcases r.noteChange_cases before.bothFailed with hn | ⟨linked, hn⟩ <;> rw [hn]
    · exact .inl hreact
    · obtain ⟨-, -, -, -, hflag, -⟩ := State.formStatus_formed linked
      exact .inr (hflag.trans (State.zoneOccupied_of_still hstill))

/-- The gate of an enabled detector that is occupied (R69). -/
theorem State.zoneOccupied_of_detector {s : State} {i : Fin 16} {k : Fin 4} (hi : i.val = 8 + k.val)
    (enabled : s.detectorEnabled k = true) (active : s.gi i = true) : s.zoneOccupied = true := by
  rw [State.zoneOccupied_iff]
  obtain ⟨k, hk⟩ := k
  obtain ⟨n, hn⟩ := i
  obtain rfl : n = 8 + k := hi
  interval_cases k
  · exact .inl ⟨enabled, active⟩
  · exact .inr (.inl ⟨enabled, active⟩)
  · exact .inr (.inr (.inl ⟨enabled, active⟩))
  · exact .inr (.inr (.inr ⟨enabled, active⟩))

/-- An enabled detector that becomes occupied sets the zone occupancy flag (R70). -/
theorem State.inputChanged_zoneFlag {s : State} {i : Fin 16} {k : Fin 4} (hi : i.val = 8 + k.val)
    (enabled : s.detectorEnabled k = true) (encoder : Option Word16) : (s.inputChanged i true encoder).zoneFlag = true := by
  obtain ⟨k, hk⟩ := k
  obtain ⟨n, hn⟩ := i
  obtain rfl : n = 8 + k := hi
  interval_cases k <;>
  · show (State.detectorChanged s _ true).zoneFlag = true
    rw [State.detectorChanged, if_pos (by simpa using enabled)]

theorem State.recognized_gi (s : State) (i : Fin 16) : (s.recognized i).gi i = s.inputs[i].candidate := by
  simp [State.recognized, State.gi]

theorem State.alike_recognized (s : State) (i : Fin 16) : s.Alike (s.recognized i) :=
  ⟨rfl, rfl, rfl, rfl, rfl, rfl, rfl, id⟩

/-- Settles O10: the timed part by the branches of the two commands, a recognized detector by `State.zoneOccupied`, TOP_LIMIT
by the cause that the reactions meet (`State.travelHaltedBy_of_met`). -/
theorem inputsAreDebounced : Obligations.InputsAreDebounced := by
  intro s i x
  refine ⟨fun level hraw => ?_, ?_, fun running due encoder => ?_⟩
  · have hchanged : ¬(s.inputs[i].raw == level) = true := by rwa [beq_iff_eq]
    refine ⟨fun hconfigured hstage => ?_, fun hconfigured => ?_⟩
    · have hdebouncing : s.debouncing = true := by
        rcases hstage with h | h
        · simp [State.debouncing, State.isRunning, h]
        · simpa [State.debouncing, State.configured, State.isRunning, h] using hconfigured
      exact congrArg Host.Outcome.next ((if_neg hchanged).trans (if_pos hdebouncing))
    · have hdebouncing : ¬s.debouncing = true := by
        rw [State.configured, Bool.or_eq_false_iff] at hconfigured
        simp [State.debouncing, hconfigured.1, hconfigured.2]
      exact congrArg Host.Outcome.next ((if_neg hchanged).trans (if_neg hdebouncing))
  · exact congrArg Host.Outcome.next (if_pos (beq_self_eq_true _))
  · intro inputs
    have hdebouncing : s.debouncing = true := by simp [State.debouncing, running]
    refine ⟨fun same => ?_, fun changed => ⟨_, exec_debounceExpiry_of_changed encoder running due changed, ?_, fun hi => ?_,
      fun k hi enabled active => ?_, fun hi active hdoing free => ?_⟩⟩
    · exact congrArg Host.Outcome.next ((if_pos (by rw [hdebouncing]; exact due)).trans
        ((if_pos running).trans (if_pos (beq_iff_eq.mpr same))))
    · have hstill := State.conclude_still s ((s.recognized i).inputChanged i s.inputs[i].candidate encoder)
      rw [(s.recognized i).inputChanged_still] at hstill
      generalize State.conclude s ((s.recognized i).inputChanged i s.inputs[i].candidate encoder) = t at hstill ⊢
      exact congrArg Still.inputs hstill
    · exact (State.conclude_still _ _).trans (State.inputChanged_still_of_line hi _ _ encoder)
    · have hactive : s.inputs[i].candidate = true := active
      rw [hactive]
      have henabled : (s.recognized i).detectorEnabled k = true := enabled
      have hflag := State.inputChanged_zoneFlag hi henabled encoder
      have hstill := State.inputChanged_still_of_line (i := i) (.inr (by rw [Fin.le_def, hi]; exact Nat.le_add_right_of_le (by decide)))
        (s.recognized i) true encoder
      rcases State.zoneFlag_of_sequenced s ((s.recognized i).inputChanged i true encoder) with h | h <;> rw [h]
      · exact hflag
      · rw [State.zoneOccupied_of_still hstill]
        exact State.zoneOccupied_of_detector hi henabled ((s.recognized_gi i).trans hactive)
    · subst hi
      have hactive : s.inputs[(7 : Fin 16)].candidate = true := active
      rw [hactive]
      have hmidway := free.midway
      obtain ⟨hrole, htravel, hcauses, hfree, habsent, -, hown, hcomplete⟩ := free
      have hsame : (s.recognized 7).inputChanged 7 true encoder = s.recognized 7 := rfl
      rw [hsame]
      obtain ⟨-, htracked, hgoing⟩ := (State.travelCauses_nil_iff htravel).mp hcauses
      refine State.travelHaltedBy_of_met (s.alike_recognized 7) ?_ ?_ hfree habsent (by omega) (by decide)
      · have htop : (s.recognized 7).topLimit = true := (s.recognized_gi 7).trans hactive
        have htravel' : (s.recognized 7).hoistTravel = true := htravel
        have hdoing' : (s.recognized 7).doing .raise .forward = true := hdoing
        have htracked' : (s.recognized 7).hoistPeersTracked = true := htracked
        have hgoing' : (s.recognized 7).hoistPeerStopped = false := hgoing
        simp [State.travelCauses, htravel', hdoing', htop, htracked', hgoing']
      · have hseat : (s.recognized 7).seatedInput = s.seatedInput := by
          simp [State.seatedInput, State.gi, State.recognized]
        rw [State.midway, hseat]
        exact hmidway

end Sys2Proof.Machine

/-!
PROOFS. Expiries that halt: missed deadlines (O29) and the step limit (O32); a STATUS that is recorded (O19).
-/

namespace Sys2Proof.Machine

/-! ### The hoist peers of a station -/

/-- The entry's copy reports halted or HAND (R88). -/
def PeerEntry.reportsStop (p : PeerEntry) : Bool := p.copy.any fun b => b.halt.isSome || b.hand

theorem State.hoistPeerStopped_eq (s : State) : s.hoistPeerStopped = (s.flagged .hoist).any PeerEntry.reportsStop := by
  unfold State.hoistPeerStopped
  congr 1
  funext p
  unfold PeerEntry.reportsStop
  cases p.copy <;> rfl

theorem State.hoistPeerStopped_iff (s : State) : s.hoistPeerStopped = true ↔
    ∃ i : Fin 16, s.peers[i].has .hoist = true ∧ s.peers[i].reportsStop = true := by
  rw [State.hoistPeerStopped_eq, List.any_eq_true]
  simp only [State.mem_flagged_iff]
  refine ⟨?_, ?_⟩
  · rintro ⟨p, ⟨i, rfl, hi⟩, hp⟩
    exact ⟨i, hi, hp⟩
  · rintro ⟨i, hi, hp⟩
    exact ⟨_, ⟨i, rfl, hi⟩, hp⟩

theorem State.hoistPeersTracked_iff (s : State) : s.hoistPeersTracked = true ↔
    ∀ i : Fin 16, s.peers[i].has .hoist = true → s.peers[i].state = .tracked := by
  rw [State.hoistPeersTracked, State.flagged_all_iff]
  simp only [beq_iff_eq]

/-- A station that loses nothing but one hoist peer's standing. -/
structure State.Moved (s t : State) (i : Fin 16) (q : PeerEntry) : Prop where
  peers : t.peers = s.peers.set i q
  has : q.has .hoist = s.peers[i].has .hoist

theorem State.Moved.get {s t : State} {i : Fin 16} {q : PeerEntry} (h : s.Moved t i q) : t.peers[i] = q := by
  rw [h.peers]
  simp

theorem State.Moved.get_ne {s t : State} {i j : Fin 16} {q : PeerEntry} (h : s.Moved t i q) (hij : j ≠ i) :
    t.peers[j] = s.peers[j] := by
  have hne : i.val ≠ j.val := fun he => hij (Fin.ext he.symm)
  rw [h.peers]
  simp [hne]

theorem State.Moved.has_iff {s t : State} {i : Fin 16} {q : PeerEntry} (h : s.Moved t i q) (j : Fin 16) :
    t.peers[j].has .hoist = s.peers[j].has .hoist := by
  by_cases hij : j = i
  · rw [hij, h.get, h.has]
  · rw [h.get_ne hij]

/-- A hoist peer that leaves TRACKED without a stop reported is the one cause that travel meets (R87). -/
theorem State.Moved.peerLost {s t : State} {i : Fin 16} {q : PeerEntry} (h : s.Moved t i q)
    (flag : s.peers[i].has .hoist = true) (lost : q.state ≠ .tracked) (going : q.reportsStop = false)
    (htravel : s.hoistTravel = true) (htravel' : t.hoistTravel = true) (hdoing : t.doing .raise .forward = s.doing .raise .forward)
    (htop : t.topLimit = s.topLimit) (free : s.travelCauses = []) : t.travelCauses = [.peerLost] := by
  obtain ⟨hlimit, -, hgoing⟩ := (State.travelCauses_nil_iff htravel).mp free
  have htracked : t.hoistPeersTracked = false := by
    by_contra hall
    refine lost (h.get ▸ (t.hoistPeersTracked_iff.mp (by simpa using hall)) i ?_)
    rw [h.has_iff, flag]
  have hstopped : t.hoistPeerStopped = false := by
    by_contra hsome
    obtain ⟨j, hj, hstop⟩ := t.hoistPeerStopped_iff.mp (by simpa using hsome)
    by_cases hij : j = i
    · rw [hij, h.get, going] at hstop
      cases hstop
    · rw [h.has_iff] at hj
      rw [h.get_ne hij] at hstop
      exact absurd (s.hoistPeerStopped_iff.mpr ⟨j, hj, hstop⟩) (by simp [hgoing])
  unfold State.travelCauses
  rw [if_pos htravel', hdoing, htop, hlimit, htracked, hstopped]
  rfl

/-- A hoist peer that stays TRACKED and reports a stop is the one cause that travel meets (R88). -/
theorem State.Moved.peerHalt {s t : State} {i : Fin 16} {q : PeerEntry} (h : s.Moved t i q)
    (flag : s.peers[i].has .hoist = true) (tracked : q.state = .tracked) (stopping : q.reportsStop = true)
    (htravel : s.hoistTravel = true) (htravel' : t.hoistTravel = true) (hdoing : t.doing .raise .forward = s.doing .raise .forward)
    (htop : t.topLimit = s.topLimit) (free : s.travelCauses = []) : t.travelCauses = [.peerHalt] := by
  obtain ⟨hlimit, hall, -⟩ := (State.travelCauses_nil_iff htravel).mp free
  have htracked : t.hoistPeersTracked = true := by
    rw [State.hoistPeersTracked_iff] at hall ⊢
    intro j hj
    by_cases hij : j = i
    · rw [hij, h.get, tracked]
    · rw [h.get_ne hij]
      exact hall j (by rwa [h.has_iff] at hj)
  have hstopped : t.hoistPeerStopped = true :=
    t.hoistPeerStopped_iff.mpr ⟨i, by rw [h.has_iff, flag], by rw [h.get, stopping]⟩
  unfold State.travelCauses
  rw [if_pos htravel', hdoing, htop, hlimit, htracked, hstopped]
  rfl

/-! ### Missed deadlines -/

theorem exec_deadlineExpiry_of_due {s : State} {i : Fin 16} (running : s.isRunning = true)
    (due : s.peers[i].deadline.due s.clock = true) : exec (.deadlineExpiry i) s = .next (State.conclude s
      (s.setPeer i (s.peers[i].missDeadline s.clock s.cfg.peerDeadline s.cfg.lostThreshold))) :=
  congrArg Host.Outcome.next (if_pos (by rw [running, due]; rfl))

theorem PeerEntry.missDeadline_of_lost {p : PeerEntry} (h : p.state = .tracked) {threshold : Nat}
    (hlost : threshold ≤ min 7 (p.deficit + 1)) (now : Time) (deadline : Nat) :
    p.missDeadline now deadline threshold =
      { p with state := .lost, lastSeq := none, deficit := min 7 (p.deficit + 1), deadline := .stopped } := by
  simp only [PeerEntry.missDeadline, h, if_pos hlost]

theorem State.peers_get_of_travelsFreely {s : State} {c : LocalCause} (h : s.travelsFreely c) {i : Fin 16}
    (flag : s.peers[i].has .hoist = true) : s.peers[i].reportsStop = false := by
  obtain ⟨-, htravel, hcauses, -⟩ := h
  obtain ⟨-, -, hgoing⟩ := (State.travelCauses_nil_iff htravel).mp hcauses
  by_contra hstop
  exact absurd (s.hoistPeerStopped_iff.mpr ⟨i, flag, by simpa using hstop⟩) (by simp [hgoing])

/-- Settles O29, by the cases of the tracking state. -/
theorem deadlineExpiryCounts : Obligations.DeadlineExpiryCounts := by
  intro s i running due p d leads
  have hexec := exec_deadlineExpiry_of_due running due
  have lead {q : PeerEntry} (hq : p.missDeadline s.clock s.cfg.peerDeadline s.cfg.lostThreshold = q) : leads q :=
    ⟨_, hexec, by rw [State.conclude_still, State.setPeer_still, hq]⟩
  refine ⟨fun htracked hkept => lead ?_, fun htracked hlost => ⟨lead ?_, fun hflag free => ?_⟩,
    fun hacquiring => lead ?_⟩
  · simp only [PeerEntry.missDeadline, htracked]
    exact if_neg (Nat.not_le.mpr hkept)
  · exact PeerEntry.missDeadline_of_lost htracked hlost _ _
  · have hmissed := PeerEntry.missDeadline_of_lost (p := s.peers[i]) htracked hlost s.clock s.cfg.peerDeadline
    have flag : s.peers[i].has .hoist = true :=
      (PeerEntry.has_iff _ _).mpr ⟨by rw [htracked]; decide, hflag⟩
    have going := State.peers_get_of_travelsFreely free flag
    have hmidway := free.midway
    obtain ⟨hrole, htravel, hcauses, hfree, habsent, -, hown, -⟩ := free
    generalize hq : PeerEntry.missDeadline s.peers[i] s.clock s.cfg.peerDeadline s.cfg.lostThreshold = q at hexec
    rw [hmissed] at hq
    have hhas : q.has .hoist = true := by
      rw [PeerEntry.has_iff, ← hq]
      exact ⟨nofun, hflag⟩
    have hmet : (s.setPeer i q).travelCauses = [.peerLost] :=
      State.Moved.peerLost ⟨rfl, hhas.trans flag.symm⟩ flag (by rw [← hq]; exact nofun) (by rw [← hq]; exact going) htravel
        htravel rfl rfl hcauses
    exact ⟨_, hexec, State.travelHaltedBy_of_met (s := s) (after := s.setPeer i q) (before := s)
      ⟨rfl, rfl, rfl, rfl, rfl, rfl, rfl, id⟩ hmet hmidway hfree habsent (by omega) (by decide)⟩
  · simp only [PeerEntry.missDeadline, hacquiring]

/-! ### The step limit -/

theorem State.settle_supervision {s : State} (h : s.seq.supervision = .stopped) :
    s.settle.seq.supervision = .stopped := by
  have hgrant : s.grantHand.seq.supervision = .stopped := by
    unfold State.grantHand State.enterHand State.discardInterrupted
    split
    · dsimp only
      split
      · exact h
      · rfl
    · exact h
  unfold State.settle
  dsimp only
  split <;> exact hgrant

/-- No reaction of a station at rest in a halt starts its supervision timer. -/
theorem State.stopped.conclude_supervision {after : State} (h : after.stopped) (stands : after.seq.supervision = .stopped)
    (before : State) : (State.conclude before after).seq.supervision = .stopped := by
  rw [State.conclude_seq, State.worked_of_halted h]
  exact State.settle_supervision ((State.prepared_supervision after).trans stands)

/-- Settles O32: the step has ended before STEP_TIME arises, so that nothing is interrupted. -/
theorem supervisionExpiryHalts : Obligations.SupervisionExpiryHalts := by
  intro s p running due hstep free habsent low high recovered
  have hexec : exec .supervisionExpiry s = .next (State.conclude s (s.endStep.raiseCause .stepTime)) :=
    congrArg Host.Outcome.next (if_pos (by rw [running, due]; rfl))
  obtain ⟨hrecord, hstopped, hjournal⟩ := State.raiseCause_of_free (s := s.endStep) free habsent (show s.own < 32 by omega)
  have hseq := State.raiseCause_seq_of_free (s := s.endStep) free habsent
  have hended : s.endStep.interruptStep = s.endStep := rfl
  rw [hended] at hseq
  have hrecovered : (s.endStep.raiseCause .stepTime).inRecovery = false :=
    (State.raiseCause_inRecovery _ _).trans recovered
  obtain ⟨hhalt, -, ⟨hnone, -⟩, hrest, hfilled, hstopping, -, -, hjournal', -⟩ := hstopped.conclude s
  refine ⟨_, hexec, ?_, hnone, ?_, ?_, (hjournal' hrecovered).trans hjournal, hrest, hhalt.trans hrecord,
    fun mask waiting linked => ?_⟩
  · rw [State.conclude_still, State.raiseCause_still, State.endStep_still]
  · rw [hstopping, hseq]
    rfl
  · exact hstopped.conclude_supervision (by rw [hseq]; rfl) s
  · exact hfilled.placed (by decide) (State.raiseCause_placed (s := s.endStep) habsent mask waiting)

end Sys2Proof.Machine

/-!
PROOFS. A STATUS that is recorded (O19).
-/

namespace Sys2Proof.Machine

/-! ### The entry of a recorded STATUS -/

theorem successor_eq (last : Option Byte) (seq : Byte) :
    (last.map (· + 1) == some seq) = decide (last = some (seq - 1)) := by
  rw [Bool.eq_iff_iff, decide_eq_true_iff]
  cases last with
  | none => simp
  | some n =>
    have hn : n + 1 = seq ↔ n = seq - 1 := ⟨fun h => by rw [← h]; simp, fun h => by rw [h]; simp⟩
    simpa using hn

/-- What a STATUS does to the entry of its sender, by the entry's state (R8 to R13). -/
theorem PeerEntry.takeStatus_of_known {p : PeerEntry} (known : p.state ≠ .vacant) (deadline : Nat) (a : Arrival) (seq : Byte)
    (body : StatusBody) : p.takeStatus deadline a seq body =
      if p.state = .mismatch then p.recorded a seq body
      else if p.roleFits body = false then { p.recorded a seq body with state := .mismatch, deadline := .stopped }
      else if p.state = .tracked then
        { p.recorded a seq body with deficit := p.deficit - 1, deadline := .running a.now deadline }
      else if p.state = .acquiring then
        { p.recorded a seq body with
          state := if p.lastSeq = some (seq - 1) then .tracked else .acquiring
          deadline := .running a.now deadline }
      else { p.recorded a seq body with state := .acquiring, deficit := 0, deadline := .running a.now deadline } := by
  cases hfits : p.roleFits body <;> cases hstate : p.state
  case false.vacant | true.vacant => exact absurd hstate known
  case true.acquiring =>
    simp only [PeerEntry.takeStatus, hfits, hstate, successor_eq, PeerEntry.recorded]
    generalize seq - 1 = previous
    by_cases hseq : p.lastSeq = some previous <;> simp [hseq]
  all_goals simp [PeerEntry.takeStatus, hfits, hstate, PeerEntry.recorded]

theorem PeerEntry.takeStatus_station (p : PeerEntry) (deadline : Nat) (a : Arrival) (seq : Byte) (body : StatusBody) :
    (p.takeStatus deadline a seq body).station = p.station ∧ (p.takeStatus deadline a seq body).flags = p.flags ∧
      (p.takeStatus deadline a seq body).role = p.role ∧ (p.takeStatus deadline a seq body).copy = some body := by
  unfold PeerEntry.takeStatus
  dsimp only
  split
  · exact ⟨rfl, rfl, rfl, rfl⟩
  · split
    · exact ⟨rfl, rfl, rfl, rfl⟩
    · split
      · exact ⟨rfl, rfl, rfl, rfl⟩
      · split <;> exact ⟨rfl, rfl, rfl, rfl⟩
      · exact ⟨rfl, rfl, rfl, rfl⟩

theorem PeerEntry.takeStatus_of_tracked {p : PeerEntry} (tracked : p.state = .tracked) (deadline : Nat) (a : Arrival)
    (seq : Byte) (body : StatusBody) : (p.takeStatus deadline a seq body).state =
      if p.roleFits body then .tracked else .mismatch := by
  rw [PeerEntry.takeStatus_of_known (by simp [tracked])]
  cases hfits : p.roleFits body <;> simp [tracked, PeerEntry.recorded]

theorem State.entryOf_known {s : State} {n : Nat} {i : Fin 16} (h : s.entryOf n = some i) :
    s.peers[i].state ≠ .vacant := by
  have hfound := List.find?_some h
  simp only [Bool.and_eq_true, bne_iff_ne] at hfound
  exact hfound.1

/-! ### The flash phase at a STATUS -/

theorem State.followReference_reference (s : State) : s.followReference.lamps.reference = s.leader := by
  unfold State.followReference
  dsimp only
  split
  next h => exact (beq_iff_eq.mp h).symm
  next => rfl

theorem State.correctPhase_congr {s t : State} (hcfg : t.cfg = s.cfg) (hphase : t.lamps.phase = s.lamps.phase)
    (stamp captured : Nat) : (t.correctPhase stamp captured).lamps.phase = (s.correctPhase stamp captured).lamps.phase := by
  simp only [State.correctPhase, State.flashPhase, hcfg, hphase]

theorem State.leader_of_parts {s t : State} (hpeers : t.peers = s.peers) (hown : t.own = s.own) : t.leader = s.leader := by
  rw [State.leader, State.leader, hpeers, hown]

/-- The flash phase is corrected exactly by the STATUS of the reference (R131, R132). -/
theorem State.recordStatus_phase (s : State) (i : Fin 16) (p : PeerEntry) (fits : Bool) (stamp captured : Nat) :
    ((s.reported i p fits).leader ≠ some p.station →
      (s.recordStatus i p fits stamp captured).lamps.phase = s.lamps.phase) ∧
    ((s.reported i p fits).leader = some p.station →
      (s.recordStatus i p fits stamp captured).lamps.phase = (s.correctPhase stamp captured).lamps.phase) := by
  have hstill := (s.reported i p fits).followReference_still
  have hphase : (s.reported i p fits).followReference.lamps.phase = s.lamps.phase := congrArg Still.phase hstill
  have hcfg : (s.reported i p fits).followReference.cfg = s.cfg := congrArg Still.cfg hstill
  unfold State.recordStatus
  rw [State.followReference_reference]
  refine ⟨fun h => ?_, fun h => ?_⟩
  · rw [if_neg (by simpa using h), hphase]
  · rw [if_pos (by simpa using h), State.correctPhase_congr hcfg hphase]

/-! ### The echo of a STATUS at a hoist in travel -/

/-- What the adoption of a demand leaves of a hoist in travel: the travel may enter its stopping stage (R27). -/
structure State.Goes (s t : State) : Prop where
  step : t.seq.step = s.seq.step
  journal : t.seq.journal = s.seq.journal
  stopping : t.seq.stopping = false → s.seq.stopping = false
  hand : t.hand = s.hand
  level : t.level = s.level

/-- With the configuration and the inputs left, a hoist stays in travel. -/
theorem State.Goes.travel {s t : State} (h : s.Goes t) (hcfg : t.cfg = s.cfg) (hinputs : t.inputs = s.inputs) :
    t.hoistTravel = s.hoistTravel ∧ (∀ k d, t.doing k d = s.doing k d) ∧ t.topLimit = s.topLimit ∧
      (s.midway → t.midway) := by
  have hdoing (k : ForwardStep) (d : Direction) : t.doing k d = s.doing k d := by
    rw [State.doing, State.doing, State.stepNow, State.stepNow, h.step]
  have hgi (i : Fin 16) : t.gi i = s.gi i := by rw [State.gi, State.gi, hinputs]
  have htravel : t.hoistTravel = s.hoistTravel := by
    rw [State.hoistTravel, State.hoistTravel, State.role, State.role, hcfg, hdoing, hdoing]
  refine ⟨htravel, hdoing, hgi 7, fun ⟨hs, hmidway⟩ => ⟨htravel.trans hs, fun hstopping => ?_⟩⟩
  have hgo := hmidway (h.stopping hstopping)
  rw [hdoing, hdoing, h.level, hcfg, State.seatedInput, hgi]
  exact hgo

theorem State.Goes.refl (s : State) : s.Goes s := ⟨rfl, rfl, id, rfl, rfl⟩

theorem State.stopTravel_goes {s : State} {d : Direction} (h : s.stepNow = some { kind := .raise, dir := d }) :
    s.Goes s.stopTravel := by
  unfold State.stopTravel
  rw [h]
  exact ⟨rfl, rfl, nofun, rfl, rfl⟩

theorem State.adopt_goes {s : State} {d : Direction} (h : s.stepNow = some { kind := .raise, dir := d }) (x : Demand) :
    s.Goes (s.adopt x) := by
  unfold State.adopt
  dsimp only
  split
  · split
    · exact ⟨rfl, rfl, id, rfl, rfl⟩
    · obtain ⟨hstep, hjournal, hstopping, hhand, hlevel⟩ := State.stopTravel_goes (s := { s with
        demand := { s.demand with adopted := some x, stallTimer := .stopped, stalled := false } }) h
      exact ⟨hstep, hjournal, hstopping, hhand, hlevel⟩
  · exact ⟨rfl, rfl, id, rfl, rfl⟩

theorem State.takeEcho_goes {s : State} {d : Direction} (h : s.stepNow = some { kind := .raise, dir := d })
    (echo : Option Echo) : s.Goes (s.takeEcho echo) := by
  unfold State.takeEcho
  split
  · split
    · next x _ =>
      rcases s.receiveDemand_cases x with ⟨-, hx⟩ | ⟨-, hx⟩
      · rw [hx]
        exact .refl s
      · rw [hx]
        exact State.adopt_goes h x
    · exact .refl s
  · exact .refl s

/-! ### A STATUS accepted -/

theorem State.deliver_of_status {s : State} (l : Link) (captured : Nat) {sender seq : Byte} {body : StatusBody} {i : Fin 16}
    (low : 1 ≤ sender.toNat) (high : sender.toNat ≤ 31) (other : sender.toNat ≠ s.own)
    (entry : s.entryOf sender.toNat = some i) (accepted : s.peers[i].accepts seq = true) :
    s.deliver l captured { sender := sender, seq := seq, body := .status body } = s.acceptStatus i l captured seq body := by
  have formed : telegramMalformed { sender := sender, seq := seq, body := .status body } = false :=
    telegramMalformed_of_known low high nofun
  unfold State.deliver
  rw [entry, if_neg (by simp [formed]), if_neg (show ¬(sender.toNat == s.own) = true by simpa using other)]
  simp only [accepted, Bool.not_true, Bool.false_eq_true, if_false]

/-- The entry of a STATUS once it has taken it. -/
def State.taken (s : State) (i : Fin 16) (l : Link) (captured : Nat) (seq : Byte) (body : StatusBody) : PeerEntry :=
  s.peers[i].takeStatus s.cfg.peerDeadline { now := s.clock, captured := captured, link := l } seq body

theorem State.acceptStatus_taken {s : State} {i : Fin 16} {l : Link} {captured : Nat} {seq : Byte} {body : StatusBody}
    {q : PeerEntry} (hq : s.taken i l captured seq body = q) :
    let u := s.recordStatus i q (q.roleFits body) body.stamp.toNat captured
    s.acceptStatus i l captured seq body = if q.state == .tracked then u.takeEcho body.echo else u := by
  subst hq
  exact s.acceptStatus_eq i l captured seq body

theorem State.acceptStatus_records {s : State} {i : Fin 16} {l : Link} {captured : Nat} {seq : Byte} {body : StatusBody}
    {q : PeerEntry} (hq : s.taken i l captured seq body = q) :
    (s.acceptStatus i l captured seq body).still =
      { s.still with
        peers := s.peers.set i q
        peerConfig := s.peerConfig || !q.roleFits body
        adopted := (s.acceptStatus i l captured seq body).demand.adopted
        phase := (s.acceptStatus i l captured seq body).lamps.phase } := by
  subst hq
  exact s.acceptStatus_still i l captured seq body

/-- The demand after a STATUS: its echo is offered by an entry that is then TRACKED (R25). -/
theorem State.acceptStatus_demand {s : State} {i : Fin 16} {l : Link} {captured : Nat} {seq : Byte} {body : StatusBody}
    {q : PeerEntry} (hq : s.taken i l captured seq body = q) :
    let u := s.recordStatus i q (q.roleFits body) body.stamp.toNat captured
    (q.state ≠ .tracked ∨ body.echo = none →
      (s.acceptStatus i l captured seq body).demand.adopted = s.demand.adopted) ∧
    ∀ e, body.echo = some e → q.state = .tracked →
      s.acceptStatus i l captured seq body = u.takeDemand e.issuer.toNat e.kind e.number := by
  intro u
  rw [State.acceptStatus_taken hq]
  refine ⟨fun h => ?_, fun e he hq => ?_⟩
  · have hrecord : u.demand.adopted = s.demand.adopted := s.recordStatus_adopted i _ _ _ captured
    rcases h with hq | hecho
    · rw [if_neg (fun h => hq (beq_iff_eq.mp h))]
      exact hrecord
    · rw [hecho]
      split <;> exact hrecord
  · rw [if_pos (beq_iff_eq.mpr hq), he]
    rfl

/-- The flash phase after a STATUS is that of its record. -/
theorem State.acceptStatus_phase {s : State} {i : Fin 16} {l : Link} {captured : Nat} {seq : Byte} {body : StatusBody}
    {q : PeerEntry} (hq : s.taken i l captured seq body = q) :
    (s.acceptStatus i l captured seq body).lamps.phase =
      (s.recordStatus i q (q.roleFits body) body.stamp.toNat captured).lamps.phase := by
  rw [State.acceptStatus_taken hq]
  split
  · rw [State.takeEcho_lamps]
  · rfl

theorem State.recordStatus_level (s : State) (i : Fin 16) (p : PeerEntry) (fits : Bool) (stamp captured : Nat) :
    (s.recordStatus i p fits stamp captured).level = s.level := by
  have hreference (t : State) : t.followReference.level = t.level := by
    unfold State.followReference
    dsimp only
    split <;> rfl
  unfold State.recordStatus
  split <;> exact hreference _

/-- What a STATUS leaves of a hoist in travel (R27). -/
theorem State.acceptStatus_goes {s : State} {d : Direction} (h : s.stepNow = some { kind := .raise, dir := d })
    (i : Fin 16) (l : Link) (captured : Nat) (seq : Byte) (body : StatusBody) :
    s.Goes (s.acceptStatus i l captured seq body) := by
  generalize hq : s.taken i l captured seq body = q
  rw [State.acceptStatus_taken hq]
  have hrecord : s.Goes (s.recordStatus i q (q.roleFits body) body.stamp.toNat captured) := by
    have hworking := s.recordStatus_working i q (q.roleFits body) body.stamp.toNat captured
    have hseq : (s.recordStatus i q (q.roleFits body) body.stamp.toNat captured).seq = s.seq :=
      congrArg Working.seq hworking
    exact ⟨by rw [hseq], by rw [hseq], by rw [hseq]; exact id, congrArg Working.hand hworking,
      s.recordStatus_level i q (q.roleFits body) body.stamp.toNat captured⟩
  split
  · obtain ⟨hstep, hjournal, hstopping, hhand, hlevel⟩ := hrecord
    obtain ⟨hstep', hjournal', hstopping', hhand', hlevel'⟩ := State.takeEcho_goes (d := d)
      (s := s.recordStatus i q (q.roleFits body) body.stamp.toNat captured) (by rw [State.stepNow, hstep]; exact h)
      body.echo
    exact ⟨hstep'.trans hstep, hjournal'.trans hjournal, hstopping ∘ hstopping', hhand'.trans hhand,
      hlevel'.trans hlevel⟩
  · exact hrecord

theorem State.Goes.trans {s t u : State} (h : s.Goes t) (h' : t.Goes u) : s.Goes u :=
  ⟨h'.step.trans h.step, h'.journal.trans h.journal, h.stopping ∘ h'.stopping, h'.hand.trans h.hand,
    h'.level.trans h.level⟩

theorem State.Alike.acceptStatus {s x : State} (h : s.Alike x) {i : Fin 16} {l : Link} {captured : Nat} {seq : Byte}
    {body : StatusBody} (goes : s.Goes (x.acceptStatus i l captured seq body)) :
    s.Alike (x.acceptStatus i l captured seq body) := by
  have hcfg : (x.acceptStatus i l captured seq body).cfg = x.cfg :=
    congrArg Still.cfg (x.acceptStatus_still i l captured seq body)
  have hmail := x.acceptStatus_mail i l captured seq body
  exact ⟨(congrArg StationConfig.station hcfg).trans h.own, by rw [hcfg, h.mask],
    (x.acceptStatus_halt i l captured seq body).trans h.halt, goes.step, goes.journal, by rw [goes.hand],
    (congrArg (·.former.sequence) hmail).trans h.sequence, fun hw => State.noHaltWaiting_of_mail hmail (h.waiting hw)⟩

/-- A valid reception counted at a working link leaves what a hoist's halt turns on. -/
theorem State.counted_alike {s : State} {l : Link} (linked : s.linksFit) (working : (s.link l).failed = false)
    (check : BitVec 16) : s.Alike (s.counted l check) ∧ s.Goes (s.counted l check) := by
  obtain ⟨hhalt, hformer, hseq, hhand, hlevel⟩ := State.counted_parts linked working check
  have hcfg : (s.counted l check).cfg = s.cfg := s.countValid_cfg l
  have hslot (l' : Link) := State.counted_slot linked working check l' .haltcmd
  refine ⟨⟨s.counted_own l check, by rw [hcfg], hhalt, by rw [hseq], by rw [hseq], by rw [hhand], by rw [hformer],
    fun ⟨ha, hb⟩ => ⟨(hslot .a).trans ha, (hslot .b).trans hb⟩⟩, by rw [hseq], by rw [hseq], by rw [hseq]; exact id, hhand,
    hlevel⟩

/-- A hoist in travel is halted by a STATUS of a TRACKED hoist peer that reports a stop or another role (R87, R88). -/
theorem State.acceptStatus_halts {s x before : State} {i : Fin 16} {l : Link} {captured : Nat} {seq : Byte}
    {body : StatusBody} (like : s.Alike x) (goes : s.Goes x) (hcfg : x.cfg = s.cfg) (hinputs : x.inputs = s.inputs)
    (hpeers : x.peers = s.peers) (tracked : s.peers[i].state = .tracked) (flag : s.peers[i].flags.getLsbD 5 = true) :
    let t := State.conclude before (x.acceptStatus i l captured seq body)
    (s.peers[i].roleFits body = true → body.halt ≠ none ∨ body.hand = true → s.travelsFreely .peerHalt →
      s.travelHaltedBy t .peerHalt 8) ∧
    (s.peers[i].roleFits body = false → body.halt = none → body.hand = false → s.travelsFreely .peerLost →
      s.travelHaltedBy t .peerLost 7) := by
  intro t
  have has : s.peers[i].has .hoist = true := (PeerEntry.has_iff _ _).mpr ⟨by rw [tracked]; decide, flag⟩
  generalize hq : x.taken i l captured seq body = q
  have hrecords := State.acceptStatus_records hq
  have hqstate : q.state = if s.peers[i].roleFits body then .tracked else .mismatch := by
    rw [← hq, State.taken]
    simp only [hpeers]
    exact PeerEntry.takeStatus_of_tracked tracked _ _ _ _
  obtain ⟨-, hflags, -, hcopy⟩ := x.peers[i].takeStatus_station x.cfg.peerDeadline
    { now := x.clock, captured := captured, link := l } seq body
  have hqflags : q.flags = s.peers[i].flags := by
    rw [← hq, State.taken, hflags]
    simp only [hpeers]
  have hqcopy : q.copy = some body := hq ▸ hcopy
  have hstops : q.reportsStop = (body.halt.isSome || body.hand) := by
    rw [PeerEntry.reportsStop, hqcopy]
    rfl
  have hqhas : q.has .hoist = true := by
    rw [PeerEntry.has_iff, hqstate, hqflags]
    exact ⟨by split <;> exact nofun, flag⟩
  have hmoved : s.Moved (x.acceptStatus i l captured seq body) i q :=
    ⟨(congrArg Still.peers hrecords).trans (by simp only [hpeers]), hqhas.trans has.symm⟩
  have met {c : LocalCause} {code : Byte} (hcode : (HaltReason.cause c).code = code) (free : s.travelsFreely c)
      (causes : s.hoistTravel = true → s.travelCauses = [] →
        (x.acceptStatus i l captured seq body).hoistTravel = true →
        (x.acceptStatus i l captured seq body).doing .raise .forward = s.doing .raise .forward →
        (x.acceptStatus i l captured seq body).topLimit = s.topLimit →
        (x.acceptStatus i l captured seq body).travelCauses = [c]) : s.travelHaltedBy t c code := by
    have hmidway := free.midway
    obtain ⟨-, htravel, hcauses, hfree, habsent, -, known, -⟩ := free
    obtain ⟨-, d, -, hst⟩ := State.hoist_of_travel htravel
    have hafter := goes.trans (State.acceptStatus_goes (d := d) (by rw [State.stepNow, goes.step]; exact hst) i l captured
      seq body)
    obtain ⟨htravel', hdoing, htop, hmidway'⟩ := hafter.travel ((congrArg Still.cfg hrecords).trans hcfg)
      ((congrArg Still.inputs hrecords).trans hinputs)
    exact State.travelHaltedBy_of_met (like.acceptStatus hafter)
      (causes htravel hcauses (htravel'.trans htravel) (hdoing _ _) htop) (hmidway' hmidway) hfree habsent (by omega) hcode
  refine ⟨fun fits stop free => met (by decide) free fun htravel hcauses htravel' hdoing htop => ?_,
    fun fits calm off free => met (by decide) free fun htravel hcauses htravel' hdoing htop => ?_⟩
  · refine hmoved.peerHalt has ?_ ?_ htravel htravel' hdoing htop hcauses
    · rw [hqstate, fits]
      rfl
    · rw [hstops]
      simpa [Option.isSome_iff_ne_none] using stop
  · refine hmoved.peerLost has ?_ ?_ htravel htravel' hdoing htop hcauses
    · rw [hqstate, fits]
      exact nofun
    · rw [hstops, calm, off]
      rfl

/-- A STATUS accepted by its sender's entry on a working link is recorded after its count (R5, R159). -/
theorem exec_statusReceived_of_accepted {s : State} {l : Link} {sender seq : Byte} {body : StatusBody} {i : Fin 16}
    (hopen : s.mayReceive l = true) (working : (s.link l).failed = false) (low : 1 ≤ sender.toNat) (high : sender.toNat ≤ 31)
    (other : sender.toNat ≠ s.own) (entry : s.entryOf sender.toNat = some i) (accepted : s.peers[i].accepts seq = true) :
    exec (.statusReceived l sender seq body) s = .next (State.conclude s
      ((s.counted l (Machine.crc (encodeTelegram { sender := sender, seq := seq, body := .status body }))).acceptStatus i l
        (s.capturedPhase l) seq body)) := by
  have hpeers := s.counted_peers l (Machine.crc (encodeTelegram { sender := sender, seq := seq, body := .status body }))
  have hdelivered := State.deliver_of_status (s := s.counted l (Machine.crc (encodeTelegram
    { sender := sender, seq := seq, body := .status body }))) l (s.capturedPhase l) (body := body) low high
    (by rwa [State.counted_own]) (by rwa [State.entryOf_of_peers hpeers]) (by simpa only [hpeers] using accepted)
  rw [← hdelivered, ← State.receive_of_working hopen working]
  exact exec_telegramCommand l { sender := sender, seq := seq, body := .status body } s

/-- Settles O19: the entry by `PeerEntry.takeStatus_of_known`, the echo by `State.takeDemand_adopts`, the phase by
`State.recordStatus_phase`, a hoist's travel by the cause that the reactions meet. -/
theorem statusIsRecordedAndTracked : Obligations.StatusIsRecordedAndTracked := by
  intro s l sender seq body i hopen working low high other entry accepted p captured r fits q
  let tel : Telegram := { sender := sender, seq := seq, body := .status body }
  let counted := s.counted l (Machine.crc (encodeTelegram tel))
  have hpeers : counted.peers = s.peers := s.counted_peers l _
  have hcounted : counted.still = _ := s.counted_still l (Machine.crc (encodeTelegram tel))
  have hclock : counted.clock = s.clock := (congrArg Still.clock hcounted).trans (by cases l <;> rfl)
  have hcfg : counted.cfg = s.cfg := s.countValid_cfg l
  have hphase : counted.lamps.phase = s.lamps.phase := (congrArg Still.phase hcounted).trans (by cases l <;> rfl)
  have hdemand : counted.demand.adopted = s.demand.adopted := s.countValid_adopted l
  have hq : p.takeStatus s.cfg.peerDeadline { now := s.clock, captured := captured, link := l } seq body = q :=
    PeerEntry.takeStatus_of_known (State.entryOf_known entry) _ _ _ _
  have hentry : counted.taken i l captured seq body = q := by
    rw [State.taken, hcfg, hclock, ← hq]
    simp only [hpeers]
    rfl
  have hinputs : counted.inputs = s.inputs := (congrArg Still.inputs hcounted).trans (by cases l <;> rfl)
  have halike : s.linksFit → s.Alike counted ∧ s.Goes counted := fun linked => State.counted_alike linked working _
  have hconfig : counted.peerConfig = s.peerConfig := (congrArg Still.peerConfig hcounted).trans (by cases l <;> rfl)
  have hexec : exec (.statusReceived l sender seq body) s =
      .next (State.conclude s (counted.acceptStatus i l captured seq body)) :=
    exec_statusReceived_of_accepted hopen working low high other entry accepted
  obtain ⟨hstation, hflags, hrole, hcopy⟩ := p.takeStatus_station s.cfg.peerDeadline
    { now := s.clock, captured := captured, link := l } seq body
  rw [hq] at hstation hflags hrole hcopy
  have hroles : q.roleFits body = fits := by rw [PeerEntry.roleFits, hrole]
  have hafter := State.acceptStatus_records hentry
  obtain ⟨hkept, hoffered⟩ := State.acceptStatus_demand hentry
  have htaken := State.acceptStatus_phase hentry
  rw [hroles] at htaken hafter hoffered
  clear_value q counted
  have hhalted (linked : s.linksFit) (tracked : p.state = .tracked) (flag : p.flags.getLsbD 5 = true) :=
    State.acceptStatus_halts (before := s) (l := l) (captured := captured) (seq := seq) (body := body) (halike linked).1
      (halike linked).2 hcfg hinputs hpeers tracked flag
  have hstill := State.conclude_still s (counted.acceptStatus i l captured seq body)
  generalize State.conclude s (counted.acceptStatus i l captured seq body) = t at *
  rw [hafter] at hstill
  obtain ⟨hfree, hcorrected⟩ := counted.recordStatus_phase i q fits body.stamp.toNat captured
  have hdemand' : t.demand.adopted = (counted.acceptStatus i l captured seq body).demand.adopted :=
    congrArg Still.adopted hstill
  have hphase' : t.lamps.phase = (counted.acceptStatus i l captured seq body).lamps.phase := congrArg Still.phase hstill
  have hleader : t.leader = (counted.reported i q fits).leader :=
    State.leader_of_parts (congrArg Still.peers hstill) (congrArg (fun x : Still => x.cfg.station) hstill)
  refine ⟨t, hexec, ?_, fun h => ?_, fun e he tracked => ?_, hhalted, fun h => ?_, fun h => ?_⟩
  · rw [hstill, hdemand', hphase', hcounted, hpeers, hconfig]
  · exact hdemand'.trans ((hkept h).trans hdemand)
  · have huser : (counted.recordStatus i q fits body.stamp.toNat captured).demand.adopted = s.demand.adopted :=
      (counted.recordStatus_adopted i q fits _ captured).trans hdemand
    have hdesk : (counted.recordStatus i q fits body.stamp.toNat captured).cfg = s.cfg :=
      (congrArg Still.cfg (counted.recordStatus_still i q fits body.stamp.toNat captured)).trans hcfg
    obtain ⟨hadopts, hstays⟩ := (counted.recordStatus i q fits body.stamp.toNat captured).takeDemand_adopts
      e.issuer.toNat e.kind e.number
    rw [← hoffered e he tracked, huser, hdesk, ← hdemand'] at hadopts
    rw [← hoffered e he tracked, huser, hdesk, ← hdemand'] at hstays
    exact ⟨hadopts, hstays⟩

  · rw [hleader] at h
    exact hphase'.trans (htaken.trans ((hfree (by rwa [hstation])).trans hphase))
  · rw [hleader] at h
    exact hphase'.trans (htaken.trans ((hcorrected (by rwa [hstation])).trans (State.correctPhase_congr hcfg hphase _ _)))

end Sys2Proof.Machine

/-!
PROOFS. The sequencer's moves one by one; the amber expiry (O34) and the recovery expiry (O35).
-/

namespace Sys2Proof.Machine

/-! ### One move of the sequencer -/

section Moves

variable {s u : State} {st : Step} {held b b' : Bool} {n : Nat}

theorem State.advance_of_move (h : s.settle.nextMove held b = some (b', u)) :
    State.advance held (n + 1) b s = State.advance held n b' u := by
  rw [State.advance]
  simp only [h]

theorem State.advance_of_rest (h : s.settle.nextMove held b = none) : State.advance held (n + 1) b s = s.settle := by
  rw [State.advance]
  simp only [h]

/-- With no hand request pending, settling brings the handshake up to date, and nothing else (R80). -/
theorem State.settle_of_off (off : s.hand.state ≠ .pending) :
    s.settle = if s.seq.step.isNone then s.followHandshake else s := by
  have hgrant : s.grantHand = s := if_neg (by simp [off])
  unfold State.settle
  rw [hgrant]

theorem State.settle_of_idle (off : s.hand.state ≠ .pending) (hstep : s.seq.step = none) : s.settle = s.followHandshake := by
  rw [State.settle_of_off off, hstep]
  rfl

/-- Between steps the candidate begins when R40 allows. -/
theorem State.nextMove_begins (hstep : s.seq.step = none) (candidate : s.candidate = some st) (may : s.mayBegin = true)
    (start : s.startCondition st = true) (free : held = false ∨ st.isTravel = false) :
    s.nextMove held b = some (false, s.beginStep st b) := by
  have hheld : (held && st.isTravel) = false := by rcases free with h | h <;> simp [h]
  rw [State.nextMove, State.stepNow_of_none hstep]
  simp only [State.beginMove, candidate, may, start, hheld]
  rfl

theorem State.nextMove_waits (hstep : s.seq.step = none)
    (waits : ∀ st, s.candidate = some st → s.startCondition st = false ∨ held = true ∧ st.isTravel = true) :
    s.nextMove held b = none := by
  rw [State.nextMove, State.stepNow_of_none hstep]
  simp only [State.beginMove]
  split
  next st hc =>
    rcases waits st hc with h | ⟨hheld, htravel⟩
    · rw [h, Bool.and_false, Bool.false_and]
      rfl
    · rw [hheld, htravel, Bool.and_self, Bool.not_true, Bool.and_false]
      rfl
  next => rfl

/-- A step in progress completes when its condition holds and nothing else ends it (R41). -/
theorem State.nextMove_completes (hst : s.stepNow = some st) (green : s.greenLost = false) (causes : s.travelCauses = [])
    (completion : s.completionCondition st = true) :
    s.nextMove held b = some (st == { kind := .raise, dir := .inverse }, s.completeStep st) := by
  rw [State.nextMove, hst]
  simp [State.endMove, green, causes, completion]

/-- A step in progress goes on when nothing ends it. -/
theorem State.nextMove_goes_on (hst : s.stepNow = some st) (green : s.greenLost = false) (causes : s.travelCauses = [])
    (completion : s.completionCondition st = false) (stop : s.seatedEndsStop = false) : s.nextMove held b = none := by
  rw [State.nextMove, hst]
  simp [State.endMove, green, causes, completion, stop]

end Moves

/-- What the reactions before the sequencer leave of a station out of recovery. -/
theorem State.prepared_parts {s : State} (h : s.inRecovery = false) :
    s.prepared.seq = s.seq ∧ s.prepared.signal = s.signal ∧ s.prepared.hand = s.hand ∧ s.prepared.halt = s.halt ∧
      s.prepared.lamps.outputs = s.lamps.outputs ∧ s.prepared.still = s.still :=
  ⟨State.prepared_seq h, congrArg Prod.snd (State.prepared_track h), s.prepared_hand, s.prepared_halt, s.prepared_outputs,
    s.prepared_still⟩

/-! ### A SIGNAL station -/

theorem State.greenLost_of_top {s : State} (hdoing : s.doing .green .forward = false) (htop : s.topDone .green = false) :
    s.greenLost = false := by
  simp [State.greenLost, hdoing, htop]

theorem State.candidate_of_free {s : State} (recovered : s.inRecovery = false) (green : s.greenLost = false) :
    s.candidate = s.journalCandidate := by
  simp [State.candidate, recovered, green]

theorem State.travelCauses_of_signal {s : State} (role : s.role = .signal) : s.travelCauses = [] :=
  State.travelCauses_of_no_travel (by simp [State.hoistTravel, role])

theorem State.functionProven_congr {s t : State} (hcfg : t.cfg = s.cfg) (hout : t.lamps.outputs = s.lamps.outputs)
    (f : LampFunction) : t.functionProven f = s.functionProven f := by
  have hpairs : t.outputPairs = s.outputPairs := by rw [State.outputPairs, State.outputPairs, hcfg, hout]
  unfold State.functionProven
  rw [hpairs, hcfg]

/-- What a SIGNAL station's sequencer takes at the end of an event: out of recovery, not halted, without a hand request and
without a stopping stage. -/
structure State.Signalling (s : State) : Prop where
  running : s.isRunning = true
  role : s.role = .signal
  recovered : s.signal.recovering = false
  hand : s.hand.state = .off
  free : s.halted = false
  going : s.seq.stopping = false

theorem State.Signalling.inRecovery {s : State} (h : s.Signalling) : s.inRecovery = false := by
  rw [State.inRecovery, h.recovered, Bool.and_false]

theorem State.Signalling.of_parts {s t : State} (h : s.Signalling) (hstill : t.still = s.still)
    (hsignal : t.signal.recovering = s.signal.recovering) (hhand : t.hand = s.hand) (hhalt : t.halt = s.halt)
    (hgoing : t.seq.stopping = false) : t.Signalling :=
  ⟨(State.isRunning_of_still hstill).trans h.running, (State.role_of_still hstill).trans h.role,
    hsignal.trans h.recovered, by rw [hhand, h.hand], by rw [State.halted, hhalt]; exact h.free, hgoing⟩

theorem State.Signalling.mayBegin {s : State} (h : s.Signalling) (hstep : s.seq.step = none) : s.mayBegin = true := by
  simp [State.mayBegin, h.running, h.hand, h.free, hstep, h.going]

theorem State.Signalling.prepared {s : State} (h : s.Signalling) : s.prepared.Signalling := by
  obtain ⟨hseq, hsignal, hhand, hhalt, -, hstill⟩ := State.prepared_parts h.inRecovery
  exact h.of_parts hstill (by rw [hsignal]) hhand hhalt (by rw [hseq, h.going])

theorem State.Signalling.settle {s : State} (h : s.Signalling) :
    s.settle = if s.seq.step.isNone then s.followHandshake else s :=
  State.settle_of_off (by rw [h.hand]; decide)

/-- A SIGNAL station between steps begins its candidate (R40). -/
theorem State.Signalling.begins {s : State} (h : s.Signalling) {st : Step} {held b : Bool} (hstep : s.seq.step = none)
    (top : s.topDone .green = false) (candidate : s.journalCandidate = some st)
    (start : s.followHandshake.startCondition st = true) (still : st.isTravel = false) :
    s.settle.nextMove held b = some (false, s.followHandshake.beginStep st b) := by
  have hdoing : s.followHandshake.doing .green .forward = false := State.doing_of_none hstep _ _
  have hgreen : s.followHandshake.greenLost = false := State.greenLost_of_top hdoing top
  rw [State.settle_of_idle (by rw [h.hand]; decide) hstep]
  exact State.nextMove_begins hstep ((State.candidate_of_free h.inRecovery hgreen).trans candidate) (h.mayBegin hstep)
    start (.inr still)

/-- A SIGNAL station without a candidate rests. -/
theorem State.Signalling.rests {s : State} (h : s.Signalling) {held b : Bool} (hstep : s.seq.step = none)
    (top : s.topDone .green = false) (candidate : s.journalCandidate = none) : s.settle.nextMove held b = none := by
  have hdoing : s.followHandshake.doing .green .forward = false := State.doing_of_none hstep _ _
  have hgreen : s.followHandshake.greenLost = false := State.greenLost_of_top hdoing top
  rw [State.settle_of_idle (by rw [h.hand]; decide) hstep]
  refine State.nextMove_waits hstep fun st hst => ?_
  rw [State.candidate_of_free (s := s.followHandshake) h.inRecovery hgreen] at hst
  exact absurd (hst.symm.trans candidate) nofun

theorem State.Signalling.completes {s : State} (h : s.Signalling) {st : Step} {held b : Bool} (hst : s.stepNow = some st)
    (hgreen : st ≠ { kind := .green, dir := .forward }) (completion : s.completionCondition st = true)
    (top : s.topDone .green = false) : s.nextMove held b = some (st == { kind := .raise, dir := .inverse }, s.completeStep st) := by
  refine State.nextMove_completes hst (State.greenLost_of_top ?_ top) (State.travelCauses_of_signal h.role) completion
  rw [State.doing, hst]
  simpa using hgreen

theorem State.Signalling.goes_on {s : State} (h : s.Signalling) {st : Step} {held b : Bool} (hst : s.stepNow = some st)
    (hgreen : st ≠ { kind := .green, dir := .forward }) (completion : s.completionCondition st = false)
    (top : s.topDone .green = false) : s.nextMove held b = none := by
  refine State.nextMove_goes_on hst (State.greenLost_of_top ?_ top) (State.travelCauses_of_signal h.role) completion ?_
  · rw [State.doing, hst]
    simpa using hgreen
  · rw [State.seatedEndsStop, h.going, Bool.false_and, Bool.false_and]

theorem State.settle_signal (s : State) : s.settle.signal = s.signal := by
  have hgrant : s.grantHand.signal = s.signal := by
    unfold State.grantHand State.enterHand State.discardInterrupted
    split
    · dsimp only
      split <;> rfl
    · rfl
  unfold State.settle
  dsimp only
  split <;> exact hgrant

theorem State.followHandMove_signal (s : State) : s.followHandMove.signal = s.signal := by
  unfold State.followHandMove State.endHandMove
  split
  · split <;> rfl
  · rfl

/-- The sequencer and the signal state at the end of an event whose moves lead to `w`. -/
theorem State.conclude_of_sequenced {before after w : State} (h : after.sequenced (before.reversalStopped after) = w) :
    (State.conclude before after).seq = w.seq ∧ (State.conclude before after).signal = w.signal := by
  rw [State.conclude_seq, State.conclude_signal, State.worked, State.followHandMove_seq, State.followHandMove_signal, h]
  exact ⟨rfl, rfl⟩

/-- Under an OPEN RED begins after AMBER and goes on while ROAD_RED is not proven (R63, R64). -/
theorem State.Signalling.sequenced_red {x : State} (h : x.Signalling) {begun : Time} (hstep : x.seq.step = none)
    (hjournal : x.seq.journal = [{ step := .amber, state := .done, start := begun }])
    (kind : x.adoptedKind = some .openBridge) (unproven : x.roadRedProven = false) (held : Bool) :
    x.sequenced held = x.prepared.followHandshake.beginStep { kind := .red, dir := .forward } false := by
  obtain ⟨hseq, -, -, -, hout, hstill⟩ := State.prepared_parts h.inRecovery
  have hw := h.prepared
  have hproven : x.prepared.roadRedProven = false := by
    rw [← unproven, State.roadRedProven, State.functionProven_congr (State.cfg_of_still hstill) hout,
      State.functionProven_congr (State.cfg_of_still hstill) hout, State.roadRedProven]
  have hkind : x.prepared.adoptedKind = some .openBridge := by
    rw [State.adoptedKind, show x.prepared.demand.adopted = x.demand.adopted from congrArg Still.adopted hstill]
    exact kind
  rw [← hseq] at hstep hjournal
  rw [State.sequenced_eq]
  generalize x.prepared = w at *
  have first := hw.begins (held := held) (b := false) hstep (by rw [State.topDone, hjournal]; rfl)
    (State.journalCandidate_open_done hkind hjournal) rfl rfl
  have hbegun : (w.followHandshake.beginStep { kind := .red, dir := .forward } false).seq.journal =
      [{ step := .red, state := .partway, start := w.clock }, { step := .amber, state := .done, start := begun }] := by
    show journalBegin w.clock { kind := .red, dir := .forward } w.seq.journal = _
    rw [hjournal]
    rfl
  have hu : (w.followHandshake.beginStep { kind := .red, dir := .forward } false).Signalling :=
    hw.of_parts rfl rfl rfl rfl hw.going
  have hsettle : (w.followHandshake.beginStep { kind := .red, dir := .forward } false).settle =
      w.followHandshake.beginStep { kind := .red, dir := .forward } false := hu.settle
  rw [advanceBound, State.advance_of_move first, State.advance_of_rest, hsettle]
  rw [hsettle]
  refine hu.goes_on (st := { kind := .red, dir := .forward }) rfl (by decide) ?_ ?_
  · show (!w.seq.stopping && w.roadRedProven) = false
    rw [hproven, Bool.and_false]
  · rw [State.topDone, hbegun]
    rfl

/-- Under a CLOSE the road lights go out after AMBER, and the journal is empty (R63, R65). -/
theorem State.Signalling.sequenced_dark {x : State} (h : x.Signalling) {begun : Time} (hstep : x.seq.step = none)
    (hjournal : x.seq.journal = [{ step := .amber, state := .done, start := begun }])
    (kind : x.adoptedKind = some .closeBridge) (held : Bool) :
    x.sequenced held = ((x.prepared.followHandshake.beginStep { kind := .amber, dir := .inverse } false).completeStep
      { kind := .amber, dir := .inverse }).followHandshake := by
  obtain ⟨hseq, -, -, -, -, hstill⟩ := State.prepared_parts h.inRecovery
  have hw := h.prepared
  have hkind : x.prepared.adoptedKind = some .closeBridge := by
    rw [State.adoptedKind, show x.prepared.demand.adopted = x.demand.adopted from congrArg Still.adopted hstill]
    exact kind
  rw [← hseq] at hstep hjournal
  rw [State.sequenced_eq]
  generalize x.prepared = w at *
  have first := hw.begins (held := held) (b := false) hstep (by rw [State.topDone, hjournal]; rfl)
    (State.journalCandidate_close_cons hkind hjournal) rfl rfl
  have hbegun : (w.followHandshake.beginStep { kind := .amber, dir := .inverse } false).seq.journal =
      [{ step := .amber, state := .partway, start := w.clock }] := by
    show journalBegin w.clock { kind := .amber, dir := .inverse } w.seq.journal = _
    rw [hjournal]
    rfl
  have hu : (w.followHandshake.beginStep { kind := .amber, dir := .inverse } false).Signalling :=
    hw.of_parts rfl rfl rfl rfl hw.going
  have hsettle : (w.followHandshake.beginStep { kind := .amber, dir := .inverse } false).settle =
      w.followHandshake.beginStep { kind := .amber, dir := .inverse } false := hu.settle
  generalize hv : w.followHandshake.beginStep { kind := .amber, dir := .inverse } false = v at *
  have hdoing : v.stepNow = some { kind := .amber, dir := .inverse } := by
    rw [← hv]
    rfl
  have second := hu.completes (held := held) (b := false) hdoing (by decide)
    (by rw [State.completionCondition, hu.going]; rfl) (by rw [State.topDone, hbegun]; rfl)
  have hdone : (v.completeStep { kind := .amber, dir := .inverse }).seq.journal = [] := by
    show journalComplete .inverse v.seq.journal = _
    rw [hbegun]
    rfl
  have hlast : (v.completeStep { kind := .amber, dir := .inverse }).Signalling := hu.of_parts rfl rfl rfl rfl rfl
  have hkind' : (v.completeStep { kind := .amber, dir := .inverse }).adoptedKind = some .closeBridge := by
    rw [← hkind, ← hv]
    rfl
  have second' : v.settle.nextMove held false = some (false, v.completeStep { kind := .amber, dir := .inverse }) := by
    rw [hsettle]
    exact second
  rw [advanceBound, State.advance_of_move first, State.advance_of_move second', State.advance_of_rest
    (hlast.rests rfl (by rw [State.topDone, hdone]) (State.journalCandidate_close_nil hkind' hdone))]
  exact State.settle_of_idle (by rw [hlast.hand]; decide) rfl

/-- Settles O34: AMBER completes at the event itself, and the sequencer moves on from there. -/
theorem amberExpiryBeginsRed : Obligations.AmberExpiryBeginsRed := by
  intro s begun running role recovered off free going hdoing due hjournal
  have hexec : exec .amberTimerExpiry s = .next (State.conclude s (s.completeStep { kind := .amber, dir := .forward })) :=
    congrArg Host.Outcome.next (if_pos (by rw [running, hdoing, due]; rfl))
  have hx : (s.completeStep { kind := .amber, dir := .forward }).Signalling := ⟨running, role, recovered, off, free, rfl⟩
  have hdone : (s.completeStep { kind := .amber, dir := .forward }).seq.journal =
      [{ step := .amber, state := .done, start := begun }] := by
    show journalComplete .forward s.seq.journal = _
    rw [hjournal]
    rfl
  obtain ⟨hpseq, hpsignal, -, -, -, hpstill⟩ := State.prepared_parts hx.inRecovery
  have hclock : (s.completeStep { kind := .amber, dir := .forward }).prepared.clock = s.clock :=
    congrArg Still.clock hpstill
  have hcfg : (s.completeStep { kind := .amber, dir := .forward }).prepared.cfg = s.cfg := State.cfg_of_still hpstill
  have hstill : (State.conclude s (s.completeStep { kind := .amber, dir := .forward })).still = s.still :=
    State.conclude_still s _
  have hred := State.Signalling.sequenced_red hx rfl hdone
  have hdark := State.Signalling.sequenced_dark hx rfl hdone
  have hto {w : State} := State.conclude_of_sequenced (before := s)
    (after := s.completeStep { kind := .amber, dir := .forward }) (w := w)
  rw [← hpseq] at hdone
  have hnoTimer : (s.completeStep { kind := .amber, dir := .forward }).signal =
      { s.signal with amberTimer := .stopped } := rfl
  generalize State.conclude s (s.completeStep { kind := .amber, dir := .forward }) = t at *

  rw [hnoTimer] at hpsignal
  generalize (s.completeStep { kind := .amber, dir := .forward }).prepared = w at *
  have hrole : t.role = .signal := (State.role_of_still hstill).trans role
  refine ⟨fun kind unproven => ⟨t, hexec, hstill, ?_⟩, fun kind => ⟨t, hexec, hstill, ?_⟩⟩
  · obtain ⟨hseq, hsignal⟩ := hto (hred kind unproven _)
    have hbegun : t.seq.journal =
        [{ step := .red, state := .partway, start := s.clock }, { step := .amber, state := .done, start := begun }] := by
      rw [hseq, ← hclock]
      show journalBegin w.clock _ w.seq.journal = _
      rw [hdone]
      rfl
    have hrecovered : t.signal.recovering = false := by
      rw [hsignal]
      exact (congrArg SignalState.recovering hpsignal).trans recovered
    have hstep : t.seq.step = some { step := { kind := .red, dir := .forward }, begun := s.clock } := by
      rw [hseq, ← hclock]
      rfl
    refine ⟨hstep, hbegun, ?_, ?_, ?_, ?_⟩
    · rw [hseq, ← hclock, ← hcfg]
      rfl
    · rw [hsignal]
      exact congrArg SignalState.amberTimer hpsignal
    · rw [State.roadAspect_eq, hbegun]
      simp [hrole, hrecovered]
    · simp [State.phase, hrole, State.signalPhase, hrecovered, State.doing, State.stepNow, hstep, hbegun]
  · obtain ⟨hseq, hsignal⟩ := hto (hdark kind _)
    have hempty : t.seq.journal = [] := by
      rw [hseq]
      show journalComplete .inverse (journalBegin w.clock _ w.seq.journal) = _
      rw [hdone]
      rfl
    have hrecovered : t.signal.recovering = false := by
      rw [hsignal]
      exact (congrArg SignalState.recovering hpsignal).trans recovered
    have hstep : t.seq.step = none := by
      rw [hseq]
      rfl
    refine ⟨hstep, hempty, ?_, ?_, ?_, ?_⟩
    · rw [hseq]
      rfl
    · rw [hsignal]
      rfl
    · rw [State.roadAspect_eq, hempty]
      simp [hrecovered]
    · simp [State.phase, hrole, State.signalPhase, hrecovered, State.doing, State.stepNow, hstep, hempty]

theorem State.mem_entriesOf_iff {s : State} {r : Role} {p : PeerEntry} :
    p ∈ s.entriesOf r ↔ ∃ i : Fin 16, s.peers[i] = p ∧ s.peers[i].state ≠ .vacant ∧ s.peers[i].role = r := by
  simp only [State.entriesOf, List.mem_filter, Vector.mem_toList_iff, Vector.mem_iff_getElem, Bool.and_eq_true,
    bne_iff_ne, beq_iff_eq]
  constructor
  · rintro ⟨⟨i, hi, rfl⟩, hstate, hrole⟩
    exact ⟨⟨i, hi⟩, rfl, hstate, hrole⟩
  · rintro ⟨i, rfl, hstate, hrole⟩
    exact ⟨⟨i, i.isLt, rfl⟩, hstate, hrole⟩

/-- Settles O35: the recovered journal is set at the event itself, and without a demand nothing begins. -/
theorem recoveryExpirySetsJournal : Obligations.RecoveryExpirySetsJournal := by
  intro s running role recovering due undecided hstep open_
  have hrecovery : s.inRecovery = true := by rw [State.inRecovery, role, recovering]; rfl
  have hexec : exec .recoveryTimerExpiry s = .next (State.conclude s s.endRecovery) :=
    congrArg Host.Outcome.next (if_pos (by rw [running, hrecovery, due]; rfl))
  have hjournal : s.recoveredJournal = if open_ then [] else
      [{ step := .red, state := .done, start := s.clock }, { step := .amber, state := .done, start := s.clock }] := by
    unfold State.recoveredJournal
    refine ite_congr (propext ?_) (fun _ => rfl) (fun _ => rfl)
    rw [List.all_eq_true]
    simp only [State.mem_entriesOf_iff, PeerEntry.contributes_phaseAmong_iff (r := .barrier) (phases := [.raised]) (by decide)]
    rw [show [Phase.raised].map (phaseCode .barrier) = [0] from rfl]
    refine ⟨fun h i known hrole => ?_, fun h => ?_⟩
    · obtain ⟨htracked, -, c, hc, hrun, hphase⟩ := h _ ⟨i, rfl, known, hrole⟩
      exact ⟨htracked, c, hc, hrun, List.mem_singleton.mp hphase⟩
    · rintro p ⟨i, rfl, known, hrole⟩
      obtain ⟨htracked, c, hc, hrun, hphase⟩ := h i known hrole
      exact ⟨htracked, hrole, c, hc, hrun, List.mem_singleton.mpr hphase⟩
  have hrecovered : s.endRecovery.inRecovery = false := by rw [State.inRecovery]; exact Bool.and_false _
  have hstill : (State.conclude s s.endRecovery).still = s.still := State.conclude_still s _
  have hto {w : State} := State.conclude_of_sequenced (before := s) (after := s.endRecovery) (w := w)
  generalize State.conclude s s.endRecovery = t at *
  obtain ⟨hpseq, hpsignal, -, -, -, hpstill⟩ := State.prepared_parts hrecovered
  have hrests (held : Bool) : s.endRecovery.sequenced held = s.endRecovery.prepared.settle := by
    refine State.sequenced_of_no_move (State.nextMove_waits ?_ ?_)
    · rw [State.settle_seq_step, hpseq]
      exact hstep
    · have hadopted : s.endRecovery.prepared.settle.demand.adopted = none :=
        (congrArg Still.adopted (State.settle_still _)).trans ((congrArg Still.adopted hpstill).trans undecided)
      obtain ⟨hkept, -⟩ := s.endRecovery.prepared.settle_keeps
      have hdoing : s.endRecovery.prepared.settle.doing .green .forward = false :=
        State.doing_of_none (by rw [State.settle_seq_step, hpseq]; exact hstep) _ _
      have htop : s.endRecovery.prepared.settle.topDone .green = false := by
        rw [State.topDone, hkept, hpseq, show s.endRecovery.seq.journal = s.recoveredJournal from rfl, hjournal]
        by_cases hopen : open_
        · rw [if_pos hopen]
        · rw [if_neg hopen]
          rfl
      intro st hst
      rw [State.candidate, State.greenLost_of_top hdoing htop, State.journalCandidate, State.adoptedKind, hadopted] at hst
      simp at hst
  obtain ⟨hseq, hsignal⟩ := hto (hrests _)
  obtain ⟨hkept, -⟩ := s.endRecovery.prepared.settle_keeps
  have hset : t.seq.journal = s.recoveredJournal := by
    rw [hseq, hkept, hpseq]
    rfl
  rw [State.settle_signal, hpsignal] at hsignal
  refine ⟨t, hexec, hstill, by rw [hsignal]; rfl, by rw [hsignal]; rfl, ?_, fun hopen => ?_, fun hclosed => ?_⟩
  · rw [hseq, State.settle_seq_step, hpseq]
    exact hstep
  · rw [hset, hjournal, if_pos hopen]
  · rw [hset, hjournal, if_neg hclosed]

end Sys2Proof.Machine

/-!
PROOFS. The expiries of the stall, prewarn and clearance timers, and the step that waits on them (O30).
-/

namespace Sys2Proof.Machine

/-! ### What the reactions before the sequencer bring up to date -/

theorem State.followed_clearance (s : State) : s.prepared.clearance = s.followReference.followPrewarn.followEvidence.clearance := by
  rw [State.prepared_eq, State.followRecovery_clearance, State.followed, State.followStall_clearance]

theorem State.conclude_clear (before after : State) :
    (State.conclude before after).permissive .clear = after.prepared.permissive .clear :=
  State.permissive_congr ((State.conclude_still before after).trans after.prepared_still.symm) fun _ =>
    (State.conclude_clearance before after).trans after.followed_clearance.symm

/-- The stall timer and DEMAND_STALL follow AGREED (R33). -/
theorem State.followStall_demand (s : State) : s.followStall.demand =
    if s.demand.adopted.isSome && !s.permissive .agreed then
      if s.demand.stalled || s.demand.stallTimer.isRunning then s.demand
      else { s.demand with stallTimer := s.startTimer (1000 * s.cfg.agreeTime) }
    else { s.demand with stallTimer := .stopped, stalled := false } := by
  unfold State.followStall
  split
  · split <;> rfl
  · rfl

theorem State.followed_demand (s : State) : s.followReference.followPrewarn.followEvidence.demand = s.demand := by
  have hreference : s.followReference.demand = s.demand := by
    unfold State.followReference
    dsimp only
    split <;> rfl
  have hprewarn (t : State) : t.followPrewarn.demand = t.demand := by
    unfold State.followPrewarn
    split
    · split
      · split <;> rfl
      · rfl
    · rfl
  have hevidence (t : State) : t.followEvidence.demand = t.demand := by
    unfold State.followEvidence
    split
    · split <;> rfl
    · rfl
  rw [hevidence, hprewarn, hreference]

theorem State.prepared_demand (s : State) : s.prepared.demand = s.followStall.demand := by
  have hstill : s.followReference.followPrewarn.followEvidence.still = s.still := by simp
  have hclock : s.followReference.followPrewarn.followEvidence.clock = s.clock := congrArg Still.clock hstill
  have hrecovery (t : State) : t.followRecovery.demand = t.demand := by
    unfold State.followRecovery
    split <;> rfl
  rw [State.prepared_eq, hrecovery, State.followed, State.followStall_demand, State.followStall_demand,
    State.followed_demand, State.permissive_congr (p := .agreed) hstill nofun, State.cfg_of_still hstill, State.startTimer,
    State.startTimer, hclock]

/-! ### The first step of a role -/

/-- A station of a role without aspects waits between steps, with an empty journal under an OPEN (R39). -/
structure State.AtStart (s : State) : Prop where
  running : s.isRunning = true
  role : s.role ≠ .signal
  hand : s.hand.state = .off
  free : s.halted = false
  idle : s.seq.step = none
  going : s.seq.stopping = false
  empty : s.seq.journal = []
  kind : s.adoptedKind = some .openBridge

theorem State.AtStart.of_parts {s t : State} (h : s.AtStart) (hstill : t.still = s.still) (hhand : t.hand = s.hand)
    (hhalt : t.halt = s.halt) (hseq : t.seq = s.seq) : t.AtStart := by
  refine ⟨(State.isRunning_of_still hstill).trans h.running, by rw [State.role_of_still hstill]; exact h.role,
    by rw [hhand, h.hand], by rw [State.halted, hhalt]; exact h.free, by rw [hseq, h.idle], by rw [hseq, h.going],
    by rw [hseq, h.empty], ?_⟩
  rw [State.adoptedKind, show t.demand.adopted = s.demand.adopted from congrArg Still.adopted hstill]
  exact h.kind

theorem State.AtStart.mayBegin {s : State} (h : s.AtStart) : s.mayBegin = true := by
  simp [State.mayBegin, h.running, h.hand, h.free, h.idle, h.going]

theorem State.AtStart.candidate {s : State} (h : s.AtStart) {k : ForwardStep} (first : s.role.steps.head? = some k) :
    s.candidate = some { kind := k, dir := .forward } := by
  rw [State.candidate_eq_journalCandidate h.role, State.journalCandidate_open_nil h.kind h.empty, first]
  rfl

theorem State.beginStep_stopping (s : State) (st : Step) (b : Bool) : (s.beginStep st b).seq.stopping = s.seq.stopping := by
  unfold State.beginStep
  split <;> rfl

theorem State.greenLost_of_role {s : State} (role : s.role ≠ .signal) : s.greenLost = false := by
  simp [State.greenLost, role]

/-- The first step of a role, other than a travel of a hoist, begins exactly when its start conditions hold (R40). -/
theorem State.AtStart.begins_iff {x : State} (h : x.AtStart) {k : ForwardStep} (first : x.role.steps.head? = some k)
    (rest : k ≠ .raise) (completion : x.completionCondition { kind := k, dir := .forward } = false)
    (agree : ∀ t : State, t.still = x.still → t.seq.stopping = false → t.completionCondition { kind := k, dir := .forward } =
      x.completionCondition { kind := k, dir := .forward }) :
    (x.sequenced false).doing k .forward =
      x.prepared.followHandshake.startCondition { kind := k, dir := .forward } := by
  obtain ⟨hseq, -, hhand, hhalt, -, hstill⟩ := State.prepared_parts (State.inRecovery_of_role h.role)
  rw [State.sequenced_eq]
  generalize x.prepared = w at *
  have hwait : w.settle = w.followHandshake :=
    State.settle_of_idle (by rw [hhand, h.hand]; decide) (by rw [hseq, h.idle])
  have hw : w.followHandshake.AtStart := h.of_parts hstill hhand hhalt hseq
  have hvstill : w.followHandshake.still = x.still := hstill
  generalize w.followHandshake = v at *
  have hfirst : v.role.steps.head? = some k := by rw [← first, State.role_of_still hvstill]
  cases hstart : v.startCondition { kind := k, dir := .forward } with
  | false =>
    have hnone : w.settle.nextMove false false = none := by
      rw [hwait]
      refine State.nextMove_waits hw.idle fun st hst => .inl ?_
      obtain rfl := Option.some.inj ((hw.candidate hfirst).symm.trans hst)
      exact hstart
    rw [advanceBound, State.advance_of_rest hnone, hwait]
    exact State.doing_of_none hw.idle _ _
  | true =>
    have hmove : w.settle.nextMove false false = some (false, v.beginStep { kind := k, dir := .forward } false) := by
      rw [hwait]
      exact State.nextMove_begins hw.idle (hw.candidate hfirst) hw.mayBegin hstart (.inl rfl)
    have hbegun := (v.beginStep_still { kind := k, dir := .forward } false).trans hvstill
    have hgoing : (v.beginStep { kind := k, dir := .forward } false).seq.stopping = false := by
      rw [State.beginStep_stopping]
      exact hw.going
    have hdoing : (v.beginStep { kind := k, dir := .forward } false).stepNow = some { kind := k, dir := .forward } := by
      rw [State.stepNow, State.beginStep_step]
      rfl
    have hfree : (v.beginStep { kind := k, dir := .forward } false).halted = false := by
      rw [State.halted, State.beginStep_halt]
      exact hw.free
    have hsettle := State.settle_of_step hfree (by rw [State.beginStep_step]; exact nofun)
    have hrole : (v.beginStep { kind := k, dir := .forward } false).role ≠ .signal := by
      rw [State.role_of_still hbegun]
      exact h.role
    have hcompletion := (agree _ hbegun hgoing).trans completion
    rw [advanceBound, State.advance_of_move hmove]
    generalize v.beginStep { kind := k, dir := .forward } false = u at *
    rw [State.advance_of_rest, hsettle, State.doing, hdoing, beq_self_eq_true]
    rw [hsettle]
    refine State.nextMove_goes_on hdoing (State.greenLost_of_role hrole) (State.travelCauses_of_no_travel ?_) hcompletion ?_
    · simp [State.hoistTravel, State.doing, hdoing, rest]
    · rw [State.seatedEndsStop, hgoing, Bool.false_and, Bool.false_and]

/-! ### The timers -/

theorem State.reversalStopped_of_idle {before : State} (h : before.seq.step = none) (after : State) :
    before.reversalStopped after = false := by
  rw [State.reversalStopped, State.stepNow_of_none h]
  exact Bool.and_false _

/-- The first step of a station that waits for it is in progress at the end of an event exactly when its start conditions
hold there. -/
theorem State.AtStart.conclude_doing {before x : State} (h : x.AtStart) {k : ForwardStep}
    (first : x.role.steps.head? = some k) (rest : k ≠ .raise) (idle : before.seq.step = none)
    (completion : x.completionCondition { kind := k, dir := .forward } = false)
    (agree : ∀ t : State, t.still = x.still → t.seq.stopping = false → t.completionCondition { kind := k, dir := .forward } =
      x.completionCondition { kind := k, dir := .forward }) :
    (State.conclude before x).doing k .forward =
      x.prepared.followHandshake.startCondition { kind := k, dir := .forward } := by
  have hbegins := h.begins_iff first rest completion agree
  have hseq := State.conclude_seq before x
  rw [State.worked, State.followHandMove_seq, State.reversalStopped_of_idle idle] at hseq
  rw [← hbegins, State.doing, State.doing, State.stepNow, State.stepNow, hseq]

theorem State.completionCondition_lower {s t : State} (h : t.still = s.still) (hgoing : s.seq.stopping = false)
    (hstopping : t.seq.stopping = false) : t.completionCondition { kind := .lower, dir := .forward } =
      s.completionCondition { kind := .lower, dir := .forward } := by
  have hgi := State.gi_of_still h
  simp [State.completionCondition, hgoing, hstopping, State.downLimit, hgi]

theorem State.completionCondition_withdraw {s t : State} (h : t.still = s.still) (hgoing : s.seq.stopping = false)
    (hstopping : t.seq.stopping = false) : t.completionCondition { kind := .withdraw, dir := .forward } =
      s.completionCondition { kind := .withdraw, dir := .forward } := by
  have hgi := State.gi_of_still h
  simp [State.completionCondition, hgoing, hstopping, State.locksOut, hgi]

theorem BarrierKind.entry_or_iff (k : BarrierKind) (p : Bool) : (k == .entry || p) = true ↔ (k = .exit → p = true) := by
  cases k <;> simp

theorem State.prepared_agreedOn {x : State} {k : DemandKind} (kind : x.adoptedKind = some k) :
    x.prepared.agreedOn k = x.permissive .agreed := by
  have hkind : x.prepared.adoptedKind = some k := by
    rw [State.adoptedKind, show x.prepared.demand.adopted = x.demand.adopted from congrArg Still.adopted x.prepared_still]
    exact kind
  rw [State.agreedOn, hkind, State.permissive_congr (p := .agreed) x.prepared_still nofun, beq_self_eq_true, Bool.and_true]

theorem State.startCondition_lower_iff {x : State} (kind : x.adoptedKind = some .openBridge) (before : State) :
    x.prepared.followHandshake.startCondition { kind := .lower, dir := .forward } = true ↔
      x.permissive .agreed = true ∧ x.prepared.barrier.hold = .complete ∧
        (x.cfg.barrierKind = .exit →
          x.permissive .entryDown = true ∧ (State.conclude before x).permissive .clear = true) := by
  have hagreed := State.prepared_agreedOn kind
  have hdown : x.prepared.permissive .entryDown = x.permissive .entryDown :=
    State.permissive_congr x.prepared_still nofun
  have hcfg : x.prepared.cfg = x.cfg := State.cfg_of_still x.prepared_still
  rw [State.conclude_clear]
  generalize x.prepared = w at *
  show (w.agreedOn .openBridge && w.barrier.hold == .complete &&
    (w.cfg.barrierKind == .entry || (w.permissive .entryDown && w.permissive .clear))) = true ↔ _
  rw [hagreed, hdown, hcfg, Bool.and_eq_true, Bool.and_eq_true, BarrierKind.entry_or_iff, Bool.and_eq_true, beq_iff_eq,
    and_assoc]

theorem State.startCondition_withdraw_iff {x : State} (kind : x.adoptedKind = some .openBridge) (before : State) :
    x.prepared.followHandshake.startCondition { kind := .withdraw, dir := .forward } = true ↔
      x.permissive .agreed = true ∧ x.permissive .barriersDown = true ∧
        (State.conclude before x).permissive .clear = true := by
  have hagreed := State.prepared_agreedOn kind
  have hdown : x.prepared.permissive .barriersDown = x.permissive .barriersDown :=
    State.permissive_congr x.prepared_still nofun
  rw [State.conclude_clear]
  generalize x.prepared = w at *
  show (w.agreedOn .openBridge && w.permissive .barriersDown && w.permissive .clear) = true ↔ _
  rw [hagreed, hdown, Bool.and_eq_true, Bool.and_eq_true, and_assoc]

/-- Settles O30: what each timer waits for is brought up to date before the sequencer, which then takes the step that waits
(`State.AtStart.conclude_doing`). -/
theorem supervisingTimersExpire : Obligations.SupervisingTimersExpire := by
  intro s running waits
  refine ⟨fun due held disagreed => ?_, fun due role warn => ?_, fun due holds unbroken => ?_⟩
  · let x : State := { s with demand := { s.demand with stallTimer := .stopped, stalled := true } }
    have hexec : exec .stallTimerExpiry s = .next (State.conclude s x) :=
      congrArg Host.Outcome.next (if_pos (by rw [running, due]; rfl))
    have hstill : (State.conclude s x).still = s.still := State.conclude_still s x
    have hdemand : (State.conclude s x).demand = x.demand := by
      rw [State.conclude_demand, State.prepared_demand, State.followStall_demand,
        show x.permissive .agreed = s.permissive .agreed from State.permissive_congr rfl nofun, disagreed]
      simp only [x, held]
      rfl
    generalize State.conclude s x = t at *
    exact ⟨t, hexec, hstill, by rw [hdemand], by rw [hdemand], by rw [State.hasFault, hdemand]⟩
  · let x : State := { s with barrier := { hold := .complete, timer := .stopped } }
    have hexec : exec .prewarnTimerExpiry s = .next (State.conclude s x) :=
      congrArg Host.Outcome.next (if_pos (by rw [running, due]; rfl))
    have hstill : (State.conclude s x).still = s.still := State.conclude_still s x
    have hprepared : x.prepared.barrier = x.barrier := by
      rw [State.prepared_barrier, State.followPrewarn_barrier, show x.role = .barrier from role,
        show x.permissive .warn = s.permissive .warn from State.permissive_congr rfl nofun, warn]
      rfl
    have hbarrier : (State.conclude s x).barrier = x.barrier := (State.conclude_barrier s x).trans hprepared
    refine ⟨_, hexec, hstill, hbarrier, fun ⟨off, free, idle, going, empty, kind, completion⟩ => ?_⟩
    have hx : x.AtStart := ⟨running, by rw [show x.role = .barrier from role]; decide, off, free, idle, going, empty, kind⟩
    rw [hx.conclude_doing (k := .lower) (by rw [show x.role = .barrier from role]; rfl) (by decide) idle completion
      (fun t ht hgoing => State.completionCondition_lower ht going hgoing), State.startCondition_lower_iff hx.kind s, hprepared]
    exact and_congr_right fun _ => ⟨And.right, fun h => ⟨rfl, h⟩⟩
  · let x : State := { s with clearance := { evidence := .proven, timer := .stopped } }
    have hexec : exec .tClearExpiry s = .next (State.conclude s x) :=
      congrArg Host.Outcome.next (if_pos (by rw [running, due]; rfl))
    have hstill : (State.conclude s x).still = s.still := State.conclude_still s x
    have hcleared : (State.conclude s x).clearance = x.clearance := by
      rw [State.conclude_evidence, State.followEvidence_clearance]
      exact if_pos ⟨holds, unbroken⟩
    have hclear : (State.conclude s x).permissive .clear = true := by
      rw [State.permissive, hcleared, State.isRunning_of_still hstill, running]
      rfl
    have hdisagree (p : Permissive) (hp : p ≠ .clear) : x.permissive p = s.permissive p :=
      State.permissive_congr (s := s) (t := x) rfl fun h => absurd h hp
    refine ⟨_, hexec, hstill, hcleared, hclear, fun role ⟨off, free, idle, going, empty, kind, completion⟩ => ?_,
      fun role ⟨off, free, idle, going, empty, kind, completion⟩ => ?_⟩
    · have hx : x.AtStart := ⟨running, by rw [show x.role = .barrier from role]; decide, off, free, idle, going, empty, kind⟩
      have hexit : x.cfg.barrierKind = .exit := by
        simpa [State.holdsEvidence, role] using holds
      rw [hx.conclude_doing (k := .lower) (by rw [show x.role = .barrier from role]; rfl) (by decide) idle completion
        (fun t ht hgoing => State.completionCondition_lower ht going hgoing), State.startCondition_lower_iff hx.kind s,
        State.conclude_barrier, hclear, hdisagree .agreed nofun, hdisagree .entryDown nofun]
      simp only [hexit, and_true, true_implies]
    · have hx : x.AtStart := ⟨running, by rw [show x.role = .hoist from role]; decide, off, free, idle, going, empty, kind⟩
      rw [hx.conclude_doing (k := .withdraw) (by rw [show x.role = .hoist from role]; rfl) (by decide) idle completion
        (fun t ht hgoing => State.completionCondition_withdraw ht going hgoing), State.startCondition_withdraw_iff hx.kind s,
        hclear, hdisagree .agreed nofun, hdisagree .barriersDown nofun]
      simp only [and_true]

end Sys2Proof.Machine

/-!
PROOFS. A reversal stops travel (O22).
-/

namespace Sys2Proof.Machine

/-! ### What a station is when a demand reaches it -/

/-- The station `u` is `s` with a reception noted: what the sequencer and the demand record turn on is left. -/
structure State.Hears (s u : State) : Prop where
  stage : u.stage = s.stage
  cfg : u.cfg = s.cfg
  inputs : u.inputs = s.inputs
  halt : u.halt = s.halt
  seq : u.seq = s.seq
  hand : u.hand = s.hand
  adopted : u.demand.adopted = s.demand.adopted

/-- What a reversal from the demand `a` to the demand `d` makes of the station (R27, R34, R43). -/
def State.reversed (s t : State) (a d : Demand) : Prop :=
  let dir : Direction := if a.kind = .openBridge then .forward else .inverse
  t.demand.adopted = some d ∧
  (s.role = .barrier → s.doing .lower dir = true → s.hand.move = none →
    t.seq.step = none ∧ t.armDown = false ∧ t.armUp = false) ∧
  (s.role = .hoist → s.doing .raise dir = true → s.travelCauses = [] →
    (a.kind = .closeBridge → s.seatedInput = false) →
    t.seq.stopping = true ∧ t.doing .raise dir = true ∧ t.phase = .stopping ∧ t.driveEnable = true ∧
      t.brakeRelease = true)

theorem State.travelCauses_of_parts {s t : State} (hpeers : t.peers = s.peers) (hcfg : t.cfg = s.cfg)
    (htop : t.topLimit = s.topLimit) (hstep : t.seq.step = s.seq.step) : t.travelCauses = s.travelCauses := by
  have hflagged : t.flagged .hoist = s.flagged .hoist := by rw [State.flagged, State.flagged, hpeers]
  have hdoing (k : ForwardStep) (d : Direction) : t.doing k d = s.doing k d := by
    rw [State.doing, State.doing, State.stepNow, State.stepNow, hstep]

  have htravel : t.hoistTravel = s.hoistTravel := by
    rw [State.hoistTravel, State.hoistTravel, State.role, State.role, hcfg, hdoing, hdoing]
  rw [State.travelCauses, State.travelCauses, htravel, hdoing, htop, State.hoistPeersTracked, State.hoistPeersTracked,
    State.hoistPeerStopped, State.hoistPeerStopped, hflagged]

theorem State.travelCauses_congr {s t : State} (hpeers : t.peers = s.peers) (hcfg : t.cfg = s.cfg)
    (hinputs : t.inputs = s.inputs) (hstep : t.seq.step = s.seq.step) : t.travelCauses = s.travelCauses :=
  State.travelCauses_of_parts hpeers hcfg (by rw [State.topLimit, State.topLimit, State.gi, State.gi, hinputs]) hstep

/-! ### The sequencer at a reversal -/

/-- A travel step that stays in its stopping stage: nothing ends it at this event (R85). -/
theorem State.sequenced_of_stopping {x : State} {d : Direction} (role : x.role = .hoist)
    (hst : x.stepNow = some { kind := .raise, dir := d }) (stopping : x.seq.stopping = true) (free : x.halted = false)
    (causes : x.travelCauses = []) (above : d = .inverse → x.seatedInput = false) (held : Bool) :
    x.sequenced held = x.prepared := by
  obtain ⟨hseq, -, hhand, hhalt, -, hstill⟩ := State.prepared_parts (State.inRecovery_of_role (s := x) (by simp [role]))
  have hcauses : x.prepared.travelCauses = [] :=
    (State.travelCauses_of_step hstill (by rw [hseq])).trans causes
  have hfree : x.prepared.halted = false := by rw [State.halted, hhalt]; exact free
  have hrole : x.prepared.role = .hoist := (State.role_of_still hstill).trans role
  have hseated : d = .inverse → x.prepared.seatedInput = false := fun h => (State.gi_of_still hstill 4).trans (above h)
  have hst' : x.prepared.stepNow = some { kind := .raise, dir := d } := x.prepared_stepNow.trans hst
  rw [← hseq] at stopping
  rw [State.sequenced_eq]
  generalize x.prepared = w at *
  have hstep : w.seq.step ≠ none := fun h => by
    rw [State.stepNow_of_none h] at hst'
    cases hst'
  have hsettle := State.settle_of_step hfree hstep
  rw [advanceBound, State.advance_of_rest, hsettle]
  rw [hsettle]
  refine State.nextMove_goes_on hst' (State.greenLost_of_role (by simp [hrole])) hcauses ?_ ?_
  · rw [State.completionCondition, stopping]
    rfl
  · rw [State.seatedEndsStop, stopping, State.doing, hst']
    cases d with
    | forward => rfl
    | inverse => rw [hseated rfl, Bool.and_false]

/-- A travel step that has just been stopped is not begun again at the reversal, nor is its inverse (R34). -/
theorem State.sequenced_of_held {x : State} (role : x.role = .barrier) (hstep : x.seq.step = none) {begun : Time} {rest : List JournalEntry}
    (top : x.seq.journal = { step := .lower, state := .partway, start := begun } :: rest) :
    x.sequenced true = x.prepared.settle := by
  obtain ⟨hseq, -, hhand, hhalt, -, hstill⟩ := State.prepared_parts (State.inRecovery_of_role (s := x) (by simp [role]))
  refine State.sequenced_of_no_move ?_
  have hrole : x.prepared.settle.role ≠ .signal := by
    rw [State.role_of_still ((State.settle_still _).trans hstill), role]
    decide
  obtain ⟨hjournal, -⟩ := x.prepared.settle_keeps
  have htop := hjournal.trans ((congrArg Sequencer.journal hseq).trans top)
  have hnone : x.prepared.settle.seq.step = none := by rw [State.settle_seq_step, hseq, hstep]
  generalize x.prepared.settle = w at *
  refine State.nextMove_waits hnone fun st hst => .inr ⟨rfl, ?_⟩
  rw [State.candidate_eq_journalCandidate hrole] at hst
  cases hkind : w.adoptedKind with
  | none => simp [State.journalCandidate, hkind] at hst
  | some k =>
    cases k with
    | openBridge =>
      obtain rfl := Option.some.inj ((State.journalCandidate_open_partway hkind htop).symm.trans hst)
      rfl
    | closeBridge =>
      obtain rfl := Option.some.inj ((State.journalCandidate_close_cons hkind htop).symm.trans hst)
      rfl

/-! ### The reversal -/

theorem State.adopt_of_reversal {s : State} {a d : Demand} (held : s.demand.adopted = some a) (other : a.kind ≠ d.kind) :
    s.adopt d = State.stopTravel
      { s with demand := { s.demand with adopted := some d, stallTimer := .stopped, stalled := false } } := by
  have hkind : s.adoptedKind = some a.kind := by rw [State.adoptedKind, held]; rfl
  unfold State.adopt
  simp only [hkind, beq_eq_false_iff_ne.mpr other, Bool.false_eq_true, if_false]

theorem State.stopTravel_of_lower {s : State} {d : Direction} (h : s.stepNow = some { kind := .lower, dir := d }) :
    s.stopTravel = s.endStep := by
  unfold State.stopTravel
  rw [h]

theorem State.stopTravel_of_raise {s : State} {d : Direction} (h : s.stepNow = some { kind := .raise, dir := d }) :
    s.stopTravel = { s with seq := { s.seq with stopping := true } } := by
  unfold State.stopTravel
  rw [h]

theorem State.journalKept.top {s : State} (h : s.journalKept) {st : Step} (hst : s.stepNow = some st) :
    ∃ begun rest, s.seq.journal = { step := st.kind, state := .partway, start := begun } :: rest := by
  obtain ⟨-, hentry, -⟩ := h
  obtain ⟨p, hp, rfl⟩ := Option.map_eq_some_iff.mp hst
  obtain ⟨⟨k, state, begun⟩, rest, hjournal, rfl, rfl⟩ := hentry p hp
  exact ⟨begun, rest, hjournal⟩

theorem State.reversalStopped_of_travel {s t : State} {a d : Demand} {st : Step} (held : s.demand.adopted = some a)
    (adopted : t.demand.adopted = some d) (other : a.kind ≠ d.kind) (hst : s.stepNow = some st) (travel : st.isTravel = true) :
    s.reversalStopped t = true := by
  have hs : s.adoptedKind = some a.kind := by rw [State.adoptedKind, held]; rfl
  have ht : t.adoptedKind = some d.kind := by rw [State.adoptedKind, adopted]; rfl
  simp [State.reversalStopped, hs, ht, hst, travel, other]

/-- A barrier whose travel a reversal has just ended stands still (R34, R55). -/
theorem State.conclude_of_held {before x : State} (role : x.role = .barrier) (hstep : x.seq.step = none) {begun : Time}
    {rest : List JournalEntry} (top : x.seq.journal = { step := .lower, state := .partway, start := begun } :: rest)
    (move : x.hand.move = none) (reversal : before.reversalStopped x = true) :
    (State.conclude before x).seq.step = none ∧ (State.conclude before x).armDown = false ∧
      (State.conclude before x).armUp = false := by
  have hworked : x.worked (before.reversalStopped x) = x.prepared.settle := by
    rw [State.worked, reversal, State.sequenced_of_held role hstep top]
    refine State.followHandMove_of_none ?_
    obtain ⟨-, -, hmove, -⟩ := x.prepared.settle_keeps
    rw [hmove, State.prepared_hand, move]
  have hseq := State.conclude_seq before x
  have hhand := State.conclude_hand before x
  rw [hworked] at hseq hhand
  obtain ⟨-, -, hmove, -⟩ := x.prepared.settle_keeps
  have hidle : (State.conclude before x).seq.step = none := by rw [hseq, State.settle_seq_step, State.prepared_step, hstep]
  have hstill : (State.conclude before x).hand.move = none := by rw [hhand, hmove, State.prepared_hand, move]
  generalize State.conclude before x = t at *
  refine ⟨hidle, ?_, ?_⟩
  · simp [State.armDown, State.doing_of_none hidle, hstill]
  · simp [State.armUp, State.doing_of_none hidle, hstill]

/-- A hoist in a stopping stage goes on with the drive enabled and the brake released (R77, R85). -/
theorem State.conclude_of_stopping {before x : State} {d : Direction} (running : x.isRunning = true) (role : x.role = .hoist)
    (hst : x.stepNow = some { kind := .raise, dir := d }) (stopping : x.seq.stopping = true) (free : x.halted = false)
    (causes : x.travelCauses = []) (above : d = .inverse → x.seatedInput = false) :
    (State.conclude before x).seq.stopping = true ∧ (State.conclude before x).doing .raise d = true ∧
      (State.conclude before x).phase = .stopping ∧ (State.conclude before x).driveEnable = true ∧
      (State.conclude before x).brakeRelease = true := by
  have hsequenced := State.sequenced_of_stopping role hst stopping free causes above (before.reversalStopped x)
  have hseq := State.conclude_seq before x
  have hhalt := State.conclude_halt before x
  have hstill := State.conclude_still before x
  rw [State.worked, State.followHandMove_seq, hsequenced, State.prepared_seq (State.inRecovery_of_role (by simp [role]))]
    at hseq
  rw [hsequenced, State.prepared_halt] at hhalt
  generalize State.conclude before x = t at *
  have hrole := (State.role_of_still hstill).trans role
  have hrunning := (State.isRunning_of_still hstill).trans running
  have hfree : t.halted = false := by rw [State.halted, hhalt]; exact free
  have hstop : t.seq.stopping = true := by rw [hseq, stopping]
  have hdoing : t.doing .raise d = true := by
    rw [State.doing, State.stepNow, hseq]
    exact beq_iff_eq.mpr hst
  have htravel : t.hoistTravel = true := by
    rw [State.hoistTravel, hrole]
    cases d <;> simp [hdoing]
  refine ⟨hstop, hdoing, ?_, ?_, ?_⟩
  · simp [State.phase, hrole, State.hoistPhase, hstop]
  · simp [State.driveEnable, hrunning, hrole, hfree, htravel]
  · simp [State.brakeRelease, hrunning, hrole, hfree, htravel]

theorem State.adopted_of_still {s : State} {x : Still} (h : s.still = x) : s.demand.adopted = x.adopted :=
  congrArg Still.adopted h

/-- A demand of the other kind, adopted, stops the travel in progress (R27, R34, R43). -/
theorem State.Hears.reverses {s u : State} (h : s.Hears u) (running : s.isRunning = true) (kept : s.journalKept)
    {a d : Demand} (held : s.demand.adopted = some a) (other : a.kind ≠ d.kind) (free : s.halted = false)
    (causes : s.hoistTravel = true → s.travelCauses = [] → u.travelCauses = []) :
    s.reversed (State.conclude s (u.adopt d)) a d := by
  have hheld : u.demand.adopted = some a := h.adopted.trans held
  have hstill := (State.conclude_still s (u.adopt d)).trans (u.adopt_still d)
  have hadopted := State.adopted_of_still hstill
  have hafter : (u.adopt d).demand.adopted = some d := congrArg Still.adopted (u.adopt_still d)
  have hcfg : (u.adopt d).cfg = s.cfg := (congrArg Still.cfg (u.adopt_still d)).trans h.cfg
  have hx := State.adopt_of_reversal hheld other
  refine ⟨hadopted, fun role hdoing move => ?_, fun role hdoing hcauses above => ?_⟩
  · have hst := beq_iff_eq.mp hdoing
    have hreversal := State.reversalStopped_of_travel held hafter other hst rfl
    obtain ⟨begun, rest, hjournal⟩ := kept.top hst
    rw [State.stopTravel_of_lower (by rw [State.stepNow, h.seq]; exact hst)] at hx
    refine State.conclude_of_held (by rw [State.role, hcfg]; exact role) (by rw [hx]; rfl) (begun := begun) (rest := rest) ?_
      ?_ hreversal
    · rw [hx]
      show u.seq.journal = _
      rw [h.seq, hjournal]
    · rw [hx]
      show u.hand.move = none
      rw [h.hand, move]
  · have hst := beq_iff_eq.mp hdoing
    rw [State.stopTravel_of_raise (by rw [State.stepNow, h.seq]; exact hst)] at hx
    have htravel : s.hoistTravel = true := by
      rw [State.hoistTravel, role]
      split at hdoing <;> simp [hdoing]
    have hstep : (u.adopt d).seq.step = s.seq.step := by
      rw [hx]
      show u.seq.step = _
      rw [h.seq]
    have hinputs : (u.adopt d).inputs = s.inputs := (congrArg Still.inputs (u.adopt_still d)).trans h.inputs
    refine State.conclude_of_stopping ?_ (by rw [State.role, hcfg]; exact role) ?_ (by rw [hx]) ?_ ?_ fun hdir => ?_
    · rw [State.isRunning, show (u.adopt d).stage = s.stage from (congrArg Still.stage (u.adopt_still d)).trans h.stage]
      exact running
    · rw [State.stepNow, hstep]
      exact hst
    · rw [State.halted, State.adopt_halt, h.halt]
      exact free
    · rw [← causes htravel hcauses]
      exact State.travelCauses_congr (congrArg Still.peers (u.adopt_still d)) (congrArg Still.cfg (u.adopt_still d))
        (congrArg Still.inputs (u.adopt_still d)) (by rw [hstep, h.seq])
    · have hclose : a.kind = .closeBridge := by
        cases hkind : a.kind
        · rw [hkind, if_pos rfl] at hdir
          cases hdir
        · rfl
      rw [State.seatedInput, State.gi, hinputs]
      exact above hclose

theorem demandKindOf_code (k : DemandKind) : demandKindOf k.code = some k := by
  cases k <;> rfl

/-- A demand of a desk, of a greater number than the adopted one, is adopted when it is offered (R24, R26). -/
theorem State.takeDemand_of_greater {s : State} {a d : Demand} (desk : d.issuer ∈ s.cfg.deskSet) (number : d.number ≤ 65535)
    (held : s.demand.adopted = some a) (greater : a.number < d.number) :
    s.takeDemand d.issuer d.kind.code (BitVec.ofNat 16 d.number) = s.adopt d := by
  have hnumber : (BitVec.ofNat 16 d.number).toNat = d.number := by
    rw [BitVec.toNat_ofNat]
    exact Nat.mod_eq_of_lt (by omega)
  have hnonzero : d.number ≠ 0 := by omega
  have hdemand : s.demandOf d.issuer (BitVec.ofNat 16 d.number).toNat d.kind.code = some d := by
    rw [hnumber]
    simp only [State.demandOf, demandKindOf_code]
    exact if_pos (by simp [desk, hnonzero])
  have hexceeds : d.exceeds s.demand.adopted = true := by
    rw [Demand.exceeds_iff, held]
    rintro _ ⟨⟩
    exact .inl greater
  unfold State.takeDemand State.receiveDemand
  rw [hdemand]
  exact if_pos hexceeds

/-- A valid reception counted at a working link leaves what the sequencer and the demand record turn on. -/
theorem State.hears_counted {s : State} {l : Link} (linked : s.linksFit) (working : (s.link l).failed = false)
    (check : BitVec 16) : s.Hears (s.counted l check) := by
  rw [State.counted_of_fits linked working]
  cases l <;> exact ⟨rfl, rfl, rfl, rfl, rfl, rfl, rfl⟩

theorem State.recordStatus_halt (s : State) (i : Fin 16) (p : PeerEntry) (fits : Bool) (stamp captured : Nat) :
    (s.recordStatus i p fits stamp captured).halt = s.halt := by
  unfold State.recordStatus
  split <;> exact (s.reported i p fits).followReference_halt

/-- A STATUS of a TRACKED peer that reports no stop leaves a hoist's travel without a cause. -/
theorem State.Moved.going {s t : State} {i : Fin 16} {q : PeerEntry} (h : s.Moved t i q) (tracked : q.state = .tracked)
    (going : q.reportsStop = false) (hcfg : t.cfg = s.cfg) (hinputs : t.inputs = s.inputs) (hstep : t.seq.step = s.seq.step)
    (htravel : s.hoistTravel = true) (free : s.travelCauses = []) : t.travelCauses = [] := by
  obtain ⟨hlimit, hall, hstopped⟩ := (State.travelCauses_nil_iff htravel).mp free
  have hdoing (k : ForwardStep) (d : Direction) : t.doing k d = s.doing k d := by
    rw [State.doing, State.doing, State.stepNow, State.stepNow, hstep]
  have htravel' : t.hoistTravel = true := by
    rw [← htravel, State.hoistTravel, State.hoistTravel, State.role, State.role, hcfg, hdoing, hdoing]
  rw [State.travelCauses_nil_iff htravel']
  refine ⟨?_, ?_, ?_⟩
  · rw [hdoing, State.topLimit, State.gi, hinputs]
    exact hlimit
  · rw [State.hoistPeersTracked_iff] at hall ⊢
    intro j hj
    by_cases hij : j = i
    · rw [hij, h.get, tracked]
    · rw [h.get_ne hij]
      exact hall j (by rwa [h.has_iff] at hj)
  · by_contra hsome
    obtain ⟨j, hj, hstop⟩ := t.hoistPeerStopped_iff.mp (by simpa using hsome)
    by_cases hij : j = i
    · rw [hij, h.get, going] at hstop
      cases hstop
    · rw [h.has_iff] at hj
      rw [h.get_ne hij] at hstop
      exact absurd (s.hoistPeerStopped_iff.mpr ⟨j, hj, hstop⟩) (by simp [hstopped])

/-- The echo of a TRACKED peer's STATUS that carries a demand of a greater number is adopted (R25). -/
theorem State.Hears.acceptStatus {s u : State} (h : s.Hears u) {i : Fin 16} {l : Link} {captured : Nat} {seq : Byte}
    {body : StatusBody} {a d : Demand} (hpeers : u.peers = s.peers) (tracked : s.peers[i].state = .tracked)
    (role : roleOf body.role = some s.peers[i].role) (nohalt : body.halt = none) (nohand : body.hand = false)
    (desk : d.issuer ∈ s.cfg.deskSet) (issuer : d.issuer ≤ 255) (number : d.number ≤ 65535)
    (held : s.demand.adopted = some a) (greater : a.number < d.number)
    (echo : body.echo =
      some { issuer := byteOf d.issuer, number := BitVec.ofNat 16 d.number, kind := d.kind.code }) :
    ∃ v : State, u.acceptStatus i l captured seq body = v.adopt d ∧ s.Hears v ∧
      (s.hoistTravel = true → s.travelCauses = [] → v.travelCauses = []) := by
  have hfits : s.peers[i].roleFits body = true := by rw [PeerEntry.roleFits, role, beq_self_eq_true]
  generalize hq : u.taken i l captured seq body = q
  have hqstate : q.state = .tracked := by
    rw [← hq, State.taken]
    simp only [hpeers]
    rw [PeerEntry.takeStatus_of_tracked tracked, hfits]
    rfl
  obtain ⟨-, hflags, -, hcopy⟩ := u.peers[i].takeStatus_station u.cfg.peerDeadline
    { now := u.clock, captured := captured, link := l } seq body
  have hqflags : q.flags = s.peers[i].flags := by
    rw [← hq, State.taken, hflags]
    simp only [hpeers]
  have hqcopy : q.copy = some body := hq ▸ hcopy
  have hgoing : q.reportsStop = false := by
    rw [PeerEntry.reportsStop, hqcopy]
    simp [nohalt, nohand]
  have hworking := u.recordStatus_working i q (q.roleFits body) body.stamp.toNat captured
  have hstill := u.recordStatus_still i q (q.roleFits body) body.stamp.toNat captured
  obtain ⟨-, hoffered⟩ := State.acceptStatus_demand hq
  have htaken := hoffered _ echo hqstate
  have hhalt := u.recordStatus_halt i q (q.roleFits body) body.stamp.toNat captured
  generalize u.recordStatus i q (q.roleFits body) body.stamp.toNat captured = v at *
  have hv : s.Hears v :=
    ⟨(congrArg Still.stage hstill).trans h.stage, (congrArg Still.cfg hstill).trans h.cfg,
      (congrArg Still.inputs hstill).trans h.inputs, hhalt.trans h.halt, (congrArg Working.seq hworking).trans h.seq,
      (congrArg Working.hand hworking).trans h.hand, (congrArg Still.adopted hstill).trans h.adopted⟩
  have hmoved : s.Moved v i q := by
    refine ⟨(congrArg Still.peers hstill).trans (by simp only [hpeers]), ?_⟩
    rw [Bool.eq_iff_iff, PeerEntry.has_iff, PeerEntry.has_iff, hqstate, tracked, hqflags]
  refine ⟨v, ?_, hv, fun htravel hcauses => hmoved.going hqstate hgoing hv.cfg hv.inputs (by rw [hv.seq]) htravel hcauses⟩
  rw [htaken, show (byteOf d.issuer).toNat = d.issuer by rw [byteOf, BitVec.toNat_ofNat]; exact Nat.mod_eq_of_lt (by omega)]
  exact State.takeDemand_of_greater (by rw [hv.cfg]; exact desk) number (hv.adopted.trans held) greater

/-- Settles O22: the demand is adopted from either telegram, and its adoption stops the travel (`State.Hears.reverses`). -/
theorem reversalStopsTravel : Obligations.ReversalStopsTravel := by
  intro s l sender seq body a d hopen working linked kept low high other desk issuer number held kinds greater free dir
    stopped
  have running : s.isRunning = true := by
    obtain ⟨hrunning, -⟩ := State.mayReceive_iff.mp hopen
    exact hrunning
  refine ⟨fun hnone hsender => ?_, fun i entry tracked accepted role nohalt nohand echo => ?_⟩
  · let tel : Telegram := { sender := sender, seq := seq, body := .demand d.kind.code (BitVec.ofNat 16 d.number) }
    have hears := State.hears_counted linked working (Machine.crc (encodeTelegram tel))
    have hhigh : tel.sender.toNat ≤ 31 := Nat.le_succ_of_le high
    have hunknown : ∀ i, s.entryOf tel.sender.toNat = some i → s.peers[i].accepts tel.seq = true := fun i hi =>
      absurd (hnone.symm.trans hi) (Option.some_ne_none i).symm
    have hreceive := State.receive_of_accepted (t := tel) hopen working low hhigh other hunknown
      (fun _ h => by simp [tel] at h) (fun _ h => by simp [tel] at h)
    have hpeers := s.counted_peers l (Machine.crc (encodeTelegram tel))
    rw [State.noted_of_none (by rw [State.entryOf_of_peers hpeers]; exact hnone)] at hreceive
    generalize s.counted l (Machine.crc (encodeTelegram tel)) = u at *
    have hadopts : u.handOn sender.toNat tel.body = u.adopt d := by
      show u.takeDemand sender.toNat d.kind.code _ = _
      rw [hsender]
      exact State.takeDemand_of_greater (by rw [hears.cfg]; exact desk) number (hears.adopted.trans held) greater
    have hexec : exec (.demandReceived l sender seq d.kind.code (BitVec.ofNat 16 d.number)) s =
        .next (State.conclude s (u.adopt d)) := by
      rw [← hadopts, ← hreceive]
      exact exec_telegramCommand l tel s
    have hreversed := hears.reverses running kept held kinds free fun _ hcauses => by
      rw [State.travelCauses_congr hpeers hears.cfg hears.inputs (by rw [hears.seq]), hcauses]
    generalize State.conclude s (u.adopt d) = t at *
    exact ⟨t, hexec, hreversed⟩
  · have hexec := exec_statusReceived_of_accepted (body := body) hopen working low (by omega) other entry accepted
    have hears := State.hears_counted linked working
      (Machine.crc (encodeTelegram { sender := sender, seq := seq, body := .status body }))
    have hpeers := s.counted_peers l (Machine.crc (encodeTelegram { sender := sender, seq := seq, body := .status body }))
    generalize s.counted l (Machine.crc (encodeTelegram { sender := sender, seq := seq, body := .status body })) = u at *
    obtain ⟨v, hadopts, hv, hcauses⟩ := hears.acceptStatus (l := l) (captured := s.capturedPhase l) (seq := seq) hpeers
      tracked role nohalt nohand desk issuer number held greater echo
    rw [hadopts] at hexec
    have hreversed := hv.reverses running kept held kinds free hcauses
    generalize State.conclude s (v.adopt d) = t at *
    exact ⟨t, hexec, hreversed⟩

end Sys2Proof.Machine

/-!
PROOFS. The hand key (O14).
-/

namespace Sys2Proof.Machine

/-! ### What every move of the sequencer carries on -/

/-- What the sequencer's moves leave of the level controller. -/
def Level.Carried (v w : Level) : Prop :=
  w.height = v.height ∧ w.skew = v.skew ∧ (v.speedRef = 0 → w.speedRef = 0)

theorem Level.Carried.of_eq {v w : Level} (h : w = v) : v.Carried w := h ▸ ⟨rfl, rfl, id⟩

/-- What the sequencer's moves leave of a station: the hand state but for a pending request, a hand move's absence, the
height, the skew, a reference of 0 and the latched causes. -/
structure State.Carries (s t : State) : Prop where
  handState : s.hand.state ≠ .pending → t.hand.state = s.hand.state
  move : s.hand.move = none → t.hand.move = none
  height : t.level.height = s.level.height
  skew : t.level.skew = s.level.skew
  reference : s.level.speedRef = 0 → t.level.speedRef = 0
  latched : ∀ c, causeHas s.halt.latched c = true → causeHas t.halt.latched c = true

theorem State.Carries.refl (s : State) : s.Carries s := ⟨fun _ => rfl, id, rfl, rfl, id, fun _ => id⟩

theorem State.Carries.of_parts {s t : State} (hhand : t.hand = s.hand) (hlevel : s.level.Carried t.level)
    (hhalt : t.halt = s.halt) : s.Carries t := by
  obtain ⟨hheight, hskew, hreference⟩ := hlevel
  exact ⟨fun _ => by rw [hhand], fun h => by rw [hhand, h], hheight, hskew, hreference, fun c h => by rw [hhalt, h]⟩

theorem State.Carries.trans {s t u : State} (h : s.Carries t) (h' : t.Carries u) : s.Carries u :=
  ⟨fun hs => (h'.handState (by rwa [h.handState hs])).trans (h.handState hs), h'.move ∘ h.move,
    h'.height.trans h.height, h'.skew.trans h.skew, h'.reference ∘ h.reference, fun c => h'.latched c ∘ h.latched c⟩

theorem State.beginStep_carries (s : State) (st : Step) (b : Bool) : s.Carries (s.beginStep st b) := by
  refine .of_parts (s.beginStep_hand st b) ?_ (s.beginStep_halt st b)
  rcases s.beginStep_level_cases st b with h | h <;> rw [h] <;> exact ⟨rfl, rfl, id⟩

theorem causeHas_put (h : HaltRecord) (c d : LocalCause) (hd : causeHas h.latched d = true) :
    causeHas (h.put c).latched d = true := by
  unfold HaltRecord.put
  split
  · exact hd
  · rw [causeHas_causeAdd, hd, Bool.true_or]

theorem State.raiseCause_move {s : State} (c : LocalCause) (h : s.hand.move = none) : (s.raiseCause c).hand.move = none := by
  rcases s.raiseCause_cases c with ⟨-, hc⟩ | ⟨-, hc⟩ <;> rw [hc]
  · exact h
  · rw [State.formHalt_hand]
    unfold State.addOrigin
    split
    · exact h
    · rfl

theorem State.raiseCause_carries (s : State) (c : LocalCause) : s.Carries (s.raiseCause c) := by
  have hlevel : s.level.Carried (s.raiseCause c).level := by
    rcases s.raiseCause_level_keptOrStopped c with h | h <;> rw [h]
    · exact .of_eq rfl
    · exact ⟨rfl, rfl, fun _ => rfl⟩
  obtain ⟨hheight, hskew, hreference⟩ := hlevel
  refine ⟨fun _ => s.raiseCause_handState c, State.raiseCause_move c, hheight, hskew, hreference, fun d hd => ?_⟩
  · rw [State.raiseCause_halt, HaltRecord.raise]
    split
    · exact hd
    · rw [HaltRecord.addOrigin_latched]
      exact causeHas_put _ _ _ hd

theorem State.settle_carries (s : State) : s.Carries s.settle := by
  obtain ⟨-, -, hmove, hsame⟩ := s.settle_keeps
  have hlevel := s.settle_level
  exact ⟨fun h => by rw [(hsame h).2], fun h => hmove.trans h, by rw [hlevel], by rw [hlevel], by rw [hlevel]; exact id,
    fun c h => by rw [State.settle_halt, h]⟩

theorem State.nextMove_carries {s : State} {held b : Bool} {r : Bool × State} (h : s.nextMove held b = some r) :
    s.Carries r.2 :=
  State.nextMove_keeps (P := fun t => s.Carries t) (fun t st b ht => ht.trans (t.beginStep_carries st b))
    (fun _ ht => ht.trans (.of_parts rfl ⟨rfl, rfl, fun _ => rfl⟩ rfl))
    (fun _ _ ht => ht.trans (.of_parts rfl ⟨rfl, rfl, fun _ => rfl⟩ rfl))
    (fun _ ht => ht.trans (.of_parts rfl (.of_eq rfl) rfl)) (fun t c _ ht => ht.trans (t.raiseCause_carries c)) (.refl s) h

theorem State.sequenced_carries (held : Bool) (s : State) : s.Carries (s.sequenced held) :=
  State.sequenced_keeps (P := fun t => s.Carries t) (fun t ht => ht.trans t.settle_carries)
    (fun _ _ _ ht hm => ht.trans (State.nextMove_carries hm))
    (.of_parts s.prepared_hand (.of_eq s.prepared_level) s.prepared_halt)

theorem State.followHandMove_carries (s : State) : s.Carries s.followHandMove := by
  unfold State.followHandMove State.endHandMove
  split
  · split
    · exact ⟨fun _ => rfl, fun _ => rfl, rfl, rfl, fun _ => rfl, fun _ => id⟩
    · exact .refl s
  · exact .refl s

/-- What the end of an event leaves of a station. -/
theorem State.conclude_carries (before after : State) : after.Carries (State.conclude before after) := by
  have hworked := (State.sequenced_carries (before.reversalStopped after) after).trans
    (State.followHandMove_carries _)
  have hhand := State.conclude_hand before after
  have hlevel := State.conclude_level before after
  have hhalt := State.conclude_halt before after
  rw [State.worked] at hhand hlevel
  refine hworked.trans (.of_parts hhand (.of_eq hlevel) (hhalt.trans ?_))
  rw [State.followHandMove_halt]

/-! ### The hand key -/

theorem State.recognized_gi_ne (s : State) {i j : Fin 16} (h : i ≠ j) : (s.recognized i).gi j = s.gi j := by
  have hne : i.val ≠ j.val := fun he => h (Fin.ext he)
  simp [State.recognized, State.gi, hne]

/-- A BARRIER or HOIST has the hand panel. -/
theorem Role.hasHandPanel_of_moving {r : Role} (h : r = .barrier ∨ r = .hoist) : r.hasHandPanel = true ∧ r ≠ .signal := by
  rcases h with rfl | rfl <;> exact ⟨rfl, nofun⟩

theorem State.inputChanged_key {s : State} (panel : s.role.hasHandPanel = true) (active : Bool) (encoder : Option Word16) :
    s.inputChanged 1 active encoder = if active then s.keyActive else s.keyInactive encoder := if_pos panel

theorem State.enterHand_state (s : State) : s.enterHand.hand.state = .hand := rfl

/-- The station with a hand request PENDING (R123). -/
def State.requested (s : State) : State := { s with hand := { s.hand with state := .pending } }

theorem State.followHandMove_handState (s : State) : s.followHandMove.hand.state = s.hand.state := by
  unfold State.followHandMove
  split
  · exact s.endHandMove_handState
  · rfl

theorem State.keyInactive_state (s : State) (encoder : Option Word16) : (s.keyInactive encoder).hand.state = .off := by
  cases h : s.hand.state with
  | off => rw [State.keyInactive_of_off h, h]
  | pending => rw [State.keyInactive_of_pending h]
  | hand =>
    rw [State.keyInactive_of_hand h]
    split
    · rw [State.raiseCause_handState, State.leaveHand_handState]
    · rw [State.leaveHand_handState]

/-- The height a rebuild leaves (R95): a hoist records a valid reading. -/
def State.rebuiltHeight (s : State) (encoder : Option Word16) : Nat :=
  if s.role = .hoist then (encoder.map (·.toNat)).getD s.level.height else s.level.height

theorem State.rebuild_height (s : State) (encoder : Option Word16) :
    (s.rebuild encoder).level.height = s.rebuiltHeight encoder := by
  unfold State.rebuild State.rebuiltHeight
  cases hrole : s.role <;> cases encoder <;> rfl

theorem State.endHandMove_cases (s : State) : s.endHandMove = s ∧ s.hand.move = none ∨
    s.endHandMove = { s with hand := { s.hand with move := none }, level := { s.level with speedRef := 0 } } := by
  unfold State.endHandMove
  split
  · exact .inr rfl
  next h => exact .inl ⟨rfl, h⟩

/-- What is left of HAND by the release of the key (R127). -/
theorem State.leaveHand_parts (s : State) (encoder : Option Word16) :
    (s.leaveHand encoder).hand.move = none ∧ (s.leaveHand encoder).seq = { journal := s.rebuiltJournal encoder } ∧
      (s.leaveHand encoder).level.height = s.rebuiltHeight encoder ∧ (s.leaveHand encoder).cfg = s.cfg ∧
      (s.leaveHand encoder).demand = s.demand := by
  have hdemand (t : State) : (t.rebuild encoder).demand = t.demand := by
    unfold State.rebuild
    dsimp only
    split <;> rfl
  rw [State.leaveHand, State.rebuild_hand, State.rebuild_seq, State.rebuild_height, (State.rebuild_fixed _ _).2.1, hdemand]
  rcases s.endHandMove_cases with ⟨h, hmove⟩ | h <;> rw [h]
  · exact ⟨hmove, rfl, rfl, rfl, rfl⟩
  · exact ⟨rfl, rfl, rfl, rfl, rfl⟩

theorem State.raiseCause_latches {s : State} {c : LocalCause} (latched : c.isLive = false) :
    causeHas (s.raiseCause c).halt.latched c = true := by
  rw [State.raiseCause_halt, HaltRecord.raise]
  split
  next h => rwa [HaltRecord.has_of_latched _ latched] at h
  next =>
    rw [HaltRecord.addOrigin_latched, HaltRecord.put_of_latched latched, causeHas_causeAdd]
    simp

/-- What the release of the key leaves of a station in HAND (R48, R95, R127). -/
theorem State.keyInactive_parts {s : State} (h : s.hand.state = .hand) (encoder : Option Word16) :
    (s.keyInactive encoder).hand.move = none ∧ (s.keyInactive encoder).seq.journal = s.rebuiltJournal encoder ∧
      (s.keyInactive encoder).seq.step = none ∧ (s.keyInactive encoder).level.height = s.rebuiltHeight encoder ∧
      (s.keyInactive encoder).cfg = s.cfg ∧ (s.keyInactive encoder).demand.adopted = s.demand.adopted ∧
      (s.role = .hoist → encoder = none → causeHas (s.keyInactive encoder).halt.latched .encoder = true) := by
  obtain ⟨hmove, hseq, hheight, hcfg, hdemand⟩ := s.leaveHand_parts encoder
  rw [State.keyInactive_of_hand h]
  have hrole : (s.leaveHand encoder).role = s.role := by rw [State.role, hcfg]; rfl
  split
  next hraise =>
    have hstill := (s.leaveHand encoder).raiseCause_still .encoder
    obtain ⟨hjournal, hstep⟩ := (s.leaveHand encoder).raiseCause_journalSame .encoder
    refine ⟨State.raiseCause_move _ hmove, by rw [hjournal, hseq], ?_, ?_, (State.cfg_of_still hstill).trans hcfg,
      (State.adopted_of_still hstill).trans (by rw [State.still, hdemand]), fun _ _ => State.raiseCause_latches rfl⟩
    · rcases hstep with hstep | hstep <;> rw [hstep]
      rw [hseq]
    · rw [((s.leaveHand encoder).raiseCause_carries .encoder).height, hheight]
  next hkept =>
    refine ⟨hmove, by rw [hseq], by rw [hseq], hheight, hcfg, by rw [hdemand], fun role hnone => absurd ?_ hkept⟩
    rw [hrole, role, hnone]
    rfl

/-- Without a demand the sequencer of a station without aspects makes no move. -/
theorem State.sequenced_of_undecided {x : State} (role : x.role ≠ .signal) (hstep : x.seq.step = none)
    (undecided : x.demand.adopted = none) (held : Bool) : x.sequenced held = x.prepared.settle := by
  obtain ⟨hseq, -, -, -, -, hstill⟩ := State.prepared_parts (State.inRecovery_of_role role)
  refine State.sequenced_of_no_move (State.nextMove_waits ?_ ?_)
  · rw [State.settle_seq_step, hseq]
    exact hstep
  · have hadopted := (State.adopted_of_still ((State.settle_still x.prepared).trans hstill)).trans undecided
    have hrole : x.prepared.settle.role ≠ .signal := by
      rw [State.role_of_still ((State.settle_still x.prepared).trans hstill)]
      exact role
    generalize x.prepared.settle = w at *
    intro st hst
    rw [State.candidate_eq_journalCandidate hrole, State.journalCandidate, State.adoptedKind, hadopted] at hst
    cases hst

/-- Without a demand nothing begins at a station without aspects. -/
theorem State.worked_of_undecided {x : State} (role : x.role ≠ .signal) (hstep : x.seq.step = none)
    (undecided : x.demand.adopted = none) (held : Bool) :
    (x.worked held).seq.step = none ∧ (x.worked held).seq.journal = x.seq.journal := by
  obtain ⟨hkept, -⟩ := x.prepared.settle_keeps
  rw [State.worked, State.followHandMove_seq, State.sequenced_of_undecided role hstep undecided, hkept,
    State.settle_seq_step, State.prepared_seq (State.inRecovery_of_role role)]
  exact ⟨hstep, rfl⟩

theorem State.conclude_of_undecided {before x : State} (role : x.role ≠ .signal) (hstep : x.seq.step = none)
    (undecided : x.demand.adopted = none) : (State.conclude before x).seq.step = none ∧
      (State.conclude before x).seq.journal = x.seq.journal := by
  rw [State.conclude_seq]
  exact State.worked_of_undecided role hstep undecided _

theorem State.keyActive_of_free {s : State} (off : s.hand.state = .off) (free : s.seq.step = none ∨ s.halted = true) :
    s.keyActive = s.enterHand := by
  have hfree : (s.seq.step.isNone || s.halted) = true := by rcases free with h | h <;> simp [h]
  unfold State.keyActive
  rw [off, hfree]
  rfl

theorem State.keyActive_of_step {s : State} {p : StepInProgress} (off : s.hand.state = .off) (hstep : s.seq.step = some p)
    (free : s.halted = false) : s.keyActive = s.requested := by
  unfold State.keyActive
  rw [off, hstep, free]
  rfl

theorem State.functionCommanded_congr {s t : State} (hcfg : t.cfg = s.cfg) (hout : t.lamps.outputs = s.lamps.outputs)
    (f : LampFunction) : t.functionCommanded f = s.functionCommanded f := by
  rw [State.functionCommanded, State.functionCommanded, State.outputPairs, State.outputPairs, hcfg, hout]

/-- What the completion of a step is judged by (R41). -/
theorem State.completionCondition_congr {s t : State} (hcfg : t.cfg = s.cfg) (hgi : ∀ i, 4 ≤ i.val → t.gi i = s.gi i)
    (hout : t.lamps.outputs = s.lamps.outputs) (hheight : t.level.height = s.level.height)
    (hstop : t.seq.stopping = s.seq.stopping) (st : Step) : t.completionCondition st = s.completionCondition st := by
  have hproven := State.functionProven_congr hcfg hout
  have hcommanded := State.functionCommanded_congr hcfg hout
  obtain ⟨k, d⟩ := st
  unfold State.completionCondition
  rw [hstop]
  congr 1
  cases k <;> cases d
  case raise.forward => simp only [hcfg, hheight]
  case red.forward => simp only [State.roadRedProven, hproven]
  case green.forward | green.inverse => simp only [hproven, hcommanded]
  case red.inverse | amber.forward | amber.inverse => rfl
  all_goals exact hgi _ (by decide)

theorem State.seatedEndsStop_congr {s t : State} (hgi : ∀ i, 4 ≤ i.val → t.gi i = s.gi i) (hseq : t.seq = s.seq) :
    t.seatedEndsStop = s.seatedEndsStop := by
  rw [State.seatedEndsStop, State.seatedEndsStop, State.doing, State.doing, State.stepNow, State.stepNow, hseq,
    show t.seatedInput = s.seatedInput from hgi 4 (by decide)]

/-- A step that nothing ends goes on through an event at a station without aspects. -/
theorem State.sequenced_of_going {x : State} {st : Step} (role : x.role ≠ .signal) (hst : x.stepNow = some st)
    (free : x.halted = false) (causes : x.travelCauses = []) (completion : x.completionCondition st = false)
    (stop : x.seatedEndsStop = false) (held : Bool) : x.sequenced held = x.prepared := by
  obtain ⟨hseq, -, -, hhalt, -, hstill⟩ := State.prepared_parts (State.inRecovery_of_role role)
  have hgi := State.gi_of_still hstill
  have hcauses := (State.travelCauses_of_step hstill (by rw [hseq])).trans causes
  have hfree : x.prepared.halted = false := by rw [State.halted, hhalt]; exact free
  have hrole : x.prepared.role ≠ .signal := by rw [State.role_of_still hstill]; exact role
  have hst' : x.prepared.stepNow = some st := x.prepared_stepNow.trans hst
  have hcompletion := (State.completionCondition_congr (State.cfg_of_still hstill) (fun i _ => hgi i) x.prepared_outputs
    (by rw [State.prepared_level]) (by rw [hseq]) st).trans completion
  have hstop := (State.seatedEndsStop_congr (fun i _ => hgi i) hseq).trans stop
  rw [State.sequenced_eq]
  generalize x.prepared = w at *
  have hsettle := State.settle_of_step hfree fun h => by
    rw [State.stepNow_of_none h] at hst'
    cases hst'
  rw [advanceBound, State.advance_of_rest, hsettle]
  rw [hsettle]
  exact State.nextMove_goes_on hst' (State.greenLost_of_role hrole) hcauses hcompletion hstop

theorem hoistJournal_of_seated (now : Time) (locksIn locksOut atTop : Bool) :
    hoistJournal now true locksIn locksOut atTop =
      if locksIn = true ∧ locksOut = false then []
      else [{ step := .withdraw, state := if locksOut = true ∧ locksIn = false then .done else .partway, start := now }] := by
  cases locksIn <;> cases locksOut <;> rfl

theorem hoistJournal_of_raised (now : Time) (locksIn locksOut atTop : Bool) :
    hoistJournal now false locksIn locksOut atTop =
      [{ step := .raise, state := if atTop = true then .done else .partway, start := now },
        { step := .withdraw, state := .done, start := now }] := rfl

theorem State.readingAtTop_iff (s : State) (encoder : Option Word16) :
    s.readingAtTop encoder = true ↔ ∃ h, encoder = some h ∧ s.cfg.hTop ≤ h.toNat + s.cfg.stopBand := by
  cases encoder <;> simp [State.readingAtTop]

/-- Settles O14: the key gives HAND, or a request that waits for the step in progress (`State.sequenced_of_going`); its
release leaves what `State.keyInactive_parts` says, and without a demand nothing begins. -/
theorem handKey : Obligations.HandKey := by
  intro s encoder running role due
  obtain ⟨hpanel, hsignal⟩ := Role.hasHandPanel_of_moving role
  have hgi (i : Fin 16) (hi : 4 ≤ i.val) : (s.recognized 1).gi i = s.gi i :=
    s.recognized_gi_ne fun h => absurd hi (by rw [← h]; decide)
  refine ⟨fun hactive hlevel off => ?_, fun hinactive hlevel => ?_⟩
  · have hexec := exec_debounceExpiry_becomes 1 encoder running due hactive hlevel
    rw [State.inputChanged_key (s := s.recognized 1) hpanel, if_pos rfl] at hexec
    refine ⟨_, hexec, fun free => ?_, fun p hstep free causes completion stop => ?_⟩
    · have hkey : (s.recognized 1).keyActive = (s.recognized 1).enterHand := State.keyActive_of_free off free
      rw [hkey]
      exact (State.conclude_carries s _).handState (by rw [State.enterHand_state]; decide)
    · have hkey := State.keyActive_of_step (s := s.recognized 1) off hstep free
      have hgoing := State.sequenced_of_going (st := p.step) (x := (s.recognized 1).requested) hsignal
        (by rw [State.stepNow, show (s.recognized 1).requested.seq = s.seq from rfl, hstep]; rfl) free
        ((State.travelCauses_of_parts (s := s) (t := (s.recognized 1).requested) rfl rfl (hgi 7 (by decide)) rfl).trans causes)
        ((State.completionCondition_congr (s := s) (t := (s.recognized 1).requested) rfl hgi rfl rfl rfl p.step).trans
          completion)
        ((State.seatedEndsStop_congr (s := s) (t := (s.recognized 1).requested) hgi rfl).trans stop)
      rw [hkey]
      have hx : (s.recognized 1).requested.hand.state = .pending := rfl
      have hseq : (s.recognized 1).requested.seq = s.seq := rfl
      generalize (s.recognized 1).requested = x at *
      refine ⟨?_, ?_⟩
      · rw [State.conclude_hand, State.worked, hgoing, State.followHandMove_handState, State.prepared_hand, hx]
      · rw [State.conclude_seq, State.worked, hgoing, State.followHandMove_seq, State.prepared_step, hseq, hstep]
  · have hexec := exec_debounceExpiry_becomes 1 encoder running due hinactive hlevel
    rw [State.inputChanged_key (s := s.recognized 1) hpanel, if_neg (by decide)] at hexec
    have hcarries := State.conclude_carries s ((s.recognized 1).keyInactive encoder)
    have hoff := State.keyInactive_state (s.recognized 1) encoder
    have htoff := (hcarries.handState (by rw [hoff]; decide)).trans hoff
    refine ⟨_, hexec, htoff, fun hand => ?_⟩
    obtain ⟨hmove, hjournal, hstep, hheight, hcfg, hadopted, hcause⟩ := State.keyInactive_parts (s := s.recognized 1) hand encoder
    have hundecided := State.conclude_of_undecided (before := s) (x := (s.recognized 1).keyInactive encoder)
    generalize State.conclude s ((s.recognized 1).keyInactive encoder) = t at *
    generalize (s.recognized 1).keyInactive encoder = x at *
    have hxrole : x.role = s.role := by rw [State.role, hcfg]; rfl
    have hrests (undecided : s.demand.adopted = none) : t.seq.step = none ∧ t.seq.journal = x.seq.journal :=
      hundecided (by rw [hxrole]; exact hsignal) hstep (hadopted.trans undecided)
    refine ⟨hcarries.move hmove, fun hrole undecided => ?_, fun hrole => ⟨?_, fun hnone => ?_, fun undecided => ?_⟩⟩
    · obtain ⟨hidle, hkept⟩ := hrests undecided
      refine ⟨hidle, hkept.trans (hjournal.trans ?_)⟩
      rw [State.rebuiltJournal, show (s.recognized 1).role = .barrier from hrole]
      simp only [State.upLimit, State.downLimit, State.lockedInput, hgi 4 (by decide), hgi 5 (by decide), hgi 6 (by decide)]
      rfl
    · rw [hcarries.height, hheight, State.rebuiltHeight, if_pos (show (s.recognized 1).role = .hoist from hrole)]
      rfl
    · exact hcarries.latched _ (hcause hrole hnone)
    · obtain ⟨hidle, hkept⟩ := hrests undecided
      refine ⟨hidle, ?_⟩
      rw [hkept, hjournal, State.rebuiltJournal, show (s.recognized 1).role = .hoist from hrole]
      have hseated : (s.recognized 1).seatedInput = s.seatedInput := hgi 4 (by decide)
      have hin : (s.recognized 1).locksIn = s.locksIn := hgi 5 (by decide)
      have hout : (s.recognized 1).locksOut = s.locksOut := hgi 6 (by decide)
      rw [hseated, hin, hout]
      refine ⟨fun hdown => ?_, fun hup => ?_⟩
      · rw [hdown]
        exact hoistJournal_of_seated _ _ _ _
      · rw [hup]
        refine (hoistJournal_of_raised _ _ _ _).trans ?_
        simp only [State.readingAtTop_iff]
        rfl

end Sys2Proof.Machine

/-!
PROOFS. The hand moves (O15).
-/

namespace Sys2Proof.Machine

/-! ### The end of an event in HAND -/

theorem State.handMoveEnds_congr {s t : State} (hstill : t.still = s.still) (hmove : t.hand.move = s.hand.move) :
    t.handMoveEnds = s.handMoveEnds := by
  have hgi := State.gi_of_still hstill
  unfold State.handMoveEnds
  rw [State.role_of_still hstill, hmove, State.hoistPeersTracked_of_still hstill]
  simp only [State.upLimit, State.downLimit, State.topLimit, State.seatedInput, hgi]

/-- In HAND no step begins (R40). -/
theorem State.sequenced_in_hand {x : State} (hand : x.hand.state = .hand) (hstep : x.seq.step = none) (held : Bool) :
    x.sequenced held = x.prepared.settle := by
  have hnone : x.prepared.settle.seq.step = none := by rw [State.settle_seq_step, State.prepared_step, hstep]
  have hhand : x.prepared.settle.hand.state = .hand := by
    rw [(x.prepared.settle_carries).handState (by rw [State.prepared_hand, hand]; decide), State.prepared_hand, hand]
  refine State.sequenced_of_no_move ?_
  generalize x.prepared.settle = w at *
  have hmay : w.mayBegin = false := by simp [State.mayBegin, hhand]
  rw [State.nextMove, State.stepNow_of_none hnone]
  simp only [State.beginMove, hmay, Bool.false_and]
  split <;> rfl

/-- At the end of an event in HAND the hand move ends if its end has come, and nothing else moves. -/
theorem State.conclude_in_hand {before x : State} (hand : x.hand.state = .hand) (hstep : x.seq.step = none) :
    (State.conclude before x).hand = x.followHandMove.hand ∧ (State.conclude before x).level = x.followHandMove.level ∧
      (State.conclude before x).seq.step = none ∧ (State.conclude before x).halt = x.halt := by
  have hsequenced := State.sequenced_in_hand hand hstep (before.reversalStopped x)
  have hstill : x.prepared.settle.still = x.still := (State.settle_still _).trans x.prepared_still
  have hhand : x.prepared.settle.hand = x.hand := by
    obtain ⟨-, -, -, hsame⟩ := x.prepared.settle_keeps
    rw [(hsame (by rw [State.prepared_hand, hand]; decide)).2, State.prepared_hand]
  have hlevel : x.prepared.settle.level = x.level := by rw [State.settle_level, State.prepared_level]
  have hstep' : x.prepared.settle.seq.step = none := by rw [State.settle_seq_step, State.prepared_step, hstep]
  have hhalt : x.prepared.settle.halt = x.halt := by rw [State.settle_halt, State.prepared_halt]
  rw [State.conclude_hand, State.conclude_level, State.conclude_seq, State.conclude_halt, State.worked, hsequenced,
    State.followHandMove_seq]
  generalize x.prepared.settle = w at *
  have hends := State.handMoveEnds_congr hstill (by rw [hhand])
  refine ⟨?_, ?_, hstep', hhalt⟩
  all_goals
    unfold State.followHandMove State.endHandMove
    rw [hends, hhand]
    split
    · split <;> simp [hlevel, hhand]
    · assumption

/-! ### Buttons and limits -/

/-- The line of a hand button (R123). -/
def HandMove.line : HandMove → Fin 16
  | .up => 2
  | .down => 3

/-- The line of the limit of a hand move's direction (R125, R126). -/
def HandMove.limitLine (m : HandMove) (r : Role) : Fin 16 :=
  if r = .barrier then (if m = .up then 4 else 5) else if m = .up then 7 else 4

theorem HandMove.line_ne_other (m : HandMove) : m.line ≠ m.other.line := by
  cases m <;> decide

theorem HandMove.line_lt (m : HandMove) : m.line.val < 4 := by
  cases m <;> decide

theorem State.handButton_eq (s : State) (m : HandMove) : s.handButton m = s.gi m.line := by
  cases m <;> rfl

/-- A button of the hand panel, recognized as changed (R123). -/
theorem State.inputChanged_button {s : State} (moving : s.role = .barrier ∨ s.role = .hoist) (m : HandMove) (active : Bool)
    (encoder : Option Word16) : s.inputChanged m.line active encoder = s.handButtonChanged m active := by
  have hbutton (k : DemandKind) : s.buttonChanged m k active = s.handButtonChanged m active := by
    unfold State.buttonChanged
    rcases moving with h | h <;> rw [h]
  cases m
  · exact hbutton .openBridge
  · exact hbutton .closeBridge

/-- A limit, recognized as changed, changes nothing by itself. -/
theorem State.inputChanged_limit {s : State} (moving : s.role = .barrier ∨ s.role = .hoist) (m : HandMove) (active : Bool)
    (encoder : Option Word16) : s.inputChanged (m.limitLine s.role) active encoder = s := by
  have hdesk : (s.role == .desk) = false := by rcases moving with h | h <;> rw [h] <;> rfl
  rcases moving with h | h <;> cases m <;> rw [h]
  case inr.up => rfl
  all_goals
    show (if s.role == .desk && active then _ else s) = s
    rw [hdesk]
    rfl

theorem State.handMoveRefused_barrier_iff {s : State} (role : s.role = .barrier) (m : HandMove) :
    s.handMoveRefused m = true ↔ s.halted = true ∨ s.gi (m.limitLine s.role) = true ∨ m = .up ∧ s.lockedInput = true := by
  cases m <;> simp [State.handMoveRefused, role, HandMove.limitLine, State.upLimit, State.downLimit]

theorem State.handMoveRefused_hoist_iff {s : State} (role : s.role = .hoist) (m : HandMove) :
    s.handMoveRefused m = true ↔ s.halted = true ∨ s.hoistPeersTracked = false ∨ s.gi (m.limitLine s.role) = true ∨
      m = .up ∧ s.seatedInput = true ∧ s.locksOut = false := by
  cases m <;> simp [State.handMoveRefused, role, HandMove.limitLine, State.topLimit, State.seatedInput, or_assoc]

theorem State.handMoveEnds_iff {s : State} (moving : s.role = .barrier ∨ s.role = .hoist) {m : HandMove}
    (move : s.hand.move = some m) : s.handMoveEnds = true ↔
      s.gi (m.limitLine s.role) = true ∨ s.role = .hoist ∧ s.hoistPeersTracked = false := by
  rw [State.handMoveEnds, move]
  rcases moving with h | h <;> cases m <;>
    simp [h, HandMove.limitLine, State.upLimit, State.downLimit, State.topLimit, State.seatedInput]

/-! ### The hand moves -/

theorem State.endHandMove_of_move {s : State} {m : HandMove} (move : s.hand.move = some m) :
    s.endHandMove.hand.move = none ∧ s.endHandMove.level.speedRef = 0 := by
  unfold State.endHandMove
  rw [move]
  exact ⟨rfl, rfl⟩

/-- A hand move that has ended begins no other, and the reference is 0 (R125, R126). -/
theorem State.conclude_of_ended {before x : State} (hand : x.hand.state = .hand) (hstep : x.seq.step = none)
    (ended : x.hand.move = none ∧ x.level.speedRef = 0 ∨ (x.role = .barrier ∨ x.role = .hoist) ∧
      ∃ m, x.hand.move = some m ∧ x.handMoveEnds = true) :
    (State.conclude before x).hand.move = none ∧ (State.conclude before x).level.speedRef = 0 := by
  obtain ⟨hhand, hlevel, -⟩ := State.conclude_in_hand (before := before) hand hstep
  rw [hhand, hlevel]
  rcases ended with ⟨hmove, hzero⟩ | ⟨-, m, hmove, hends⟩
  · rw [State.followHandMove_of_none hmove]
    exact ⟨hmove, hzero⟩
  · rw [State.followHandMove, if_pos hends]
    exact State.endHandMove_of_move hmove

theorem State.handButtonChanged_begins {s : State} {m : HandMove} (hand : s.inHand = true) (still : s.hand.move = none)
    (other : s.gi m.other.line = false) (free : s.handMoveRefused m = false) :
    s.handButtonChanged m true = s.beginHandMove m := by
  unfold State.handButtonChanged
  rw [still]
  exact if_pos (by rw [hand, State.handButton_eq, other, free]; rfl)

theorem State.handButtonChanged_refused {s : State} {m : HandMove} (still : s.hand.move = none)
    (refused : s.handMoveRefused m = true) : s.handButtonChanged m true = s := by
  unfold State.handButtonChanged
  rw [still]
  exact if_neg (by rw [refused]; simp)

theorem State.handButtonChanged_ends {s : State} {m m' : HandMove} {active : Bool} (move : s.hand.move = some m)
    (h : active = false ∧ m' = m ∨ active = true ∧ m' = m.other) : s.handButtonChanged m' active = s.endHandMove := by
  unfold State.handButtonChanged
  rw [move]
  refine if_pos ?_
  rcases h with ⟨rfl, rfl⟩ | ⟨rfl, rfl⟩
  · simp
  · cases m <;> decide

theorem State.endHandMove_seq (s : State) : s.endHandMove.seq = s.seq := by
  rcases s.endHandMove_cases with ⟨h, -⟩ | h <;> rw [h]

theorem HandMove.le_limitLine (m : HandMove) (r : Role) : 4 ≤ (m.limitLine r).val := by
  cases r <;> cases m <;> decide

/-- A button does not touch the levels that a hand move is judged by. -/
theorem State.recognized_button_gi (s : State) (m : HandMove) {i : Fin 16} (hi : 4 ≤ i.val) :
    (s.recognized m.line).gi i = s.gi i :=
  s.recognized_gi_ne fun h => absurd (h ▸ hi) (by have := m.line_lt; omega)

/-- A hand move in progress whose end has not come goes on. -/
theorem State.conclude_of_moving {before x : State} (hand : x.hand.state = .hand) (hstep : x.seq.step = none)
    (ends : x.handMoveEnds = false) : (State.conclude before x).hand = x.hand ∧
      (State.conclude before x).level = x.level ∧ (State.conclude before x).seq.step = none ∧
      (State.conclude before x).halted = x.halted ∧ (State.conclude before x).isRunning = x.isRunning ∧
      (State.conclude before x).role = x.role := by
  obtain ⟨hhand, hlevel, hidle, hhalt⟩ := State.conclude_in_hand (before := before) hand hstep
  have hstill := State.conclude_still before x
  have hgoes : x.followHandMove = x := if_neg (by simp [ends])
  rw [hgoes] at hhand hlevel
  exact ⟨hhand, hlevel, hidle, by rw [State.halted, hhalt, State.halted], State.isRunning_of_still hstill,
    State.role_of_still hstill⟩

theorem State.beginHandMove_parts (s : State) (m : HandMove) : (s.beginHandMove m).hand = { s.hand with move := some m } ∧
    (s.beginHandMove m).level = (if s.role = .hoist then s.level.begin_ else s.level) ∧
    (s.beginHandMove m).seq = s.seq ∧ (s.beginHandMove m).halt = s.halt ∧ (s.beginHandMove m).still = s.still := by
  unfold State.beginHandMove
  simp only [beq_iff_eq]
  split <;> exact ⟨rfl, rfl, rfl, rfl, rfl⟩

/-- A hand move begins at its button (R125, R126). -/
theorem State.conclude_of_begun {before u : State} {m : HandMove} (moving : u.role = .barrier ∨ u.role = .hoist)
    (hand : u.hand.state = .hand) (hstep : u.seq.step = none) (free : u.halted = false)
    (limit : u.gi (m.limitLine u.role) = false) (tracked : u.role = .hoist → u.hoistPeersTracked = true) :
    (State.conclude before (u.beginHandMove m)).hand.move = some m ∧
      (State.conclude before (u.beginHandMove m)).level = (if u.role = .hoist then u.level.begin_ else u.level) ∧
      (State.conclude before (u.beginHandMove m)).seq.step = none ∧
      (State.conclude before (u.beginHandMove m)).halted = false ∧
      (State.conclude before (u.beginHandMove m)).isRunning = u.isRunning ∧
      (State.conclude before (u.beginHandMove m)).role = u.role := by
  obtain ⟨hhand, hlevel, hseq, hhalt, hstill⟩ := u.beginHandMove_parts m
  generalize u.beginHandMove m = x at *
  have hrole := State.role_of_still hstill
  have hends : x.handMoveEnds = false := by
    by_contra h
    rw [Bool.not_eq_false, State.handMoveEnds_iff (m := m) (by rw [hrole]; exact moving) (by rw [hhand]), hrole,
      State.gi_of_still hstill, State.hoistPeersTracked_of_still hstill, limit] at h
    rcases h with h | ⟨hhoist, h⟩
    · cases h
    · exact absurd (tracked hhoist) (by simp [h])
  obtain ⟨hhand', hlevel', hidle, hhalted, hrunning, hrole'⟩ :=
    State.conclude_of_moving (before := before) (by rw [hhand]; exact hand) (by rw [hseq, hstep]) hends
  refine ⟨by rw [hhand', hhand], hlevel'.trans hlevel, hidle, ?_, hrunning.trans (State.isRunning_of_still hstill),
    hrole'.trans hrole⟩
  rw [hhalted, State.halted, hhalt]
  exact free

theorem exec_debounceExpiry_button {s : State} {m : HandMove} {active : Bool} (encoder : Option Word16)
    (moving : s.role = .barrier ∨ s.role = .hoist) (running : s.isRunning = true)
    (due : s.inputs[m.line].timer.due s.clock = true) (hcandidate : s.inputs[m.line].candidate = active)
    (hlevel : s.inputs[m.line].level = !active) : exec (.debounceExpiry m.line encoder) s =
      .next (State.conclude s ((s.recognized m.line).handButtonChanged m active)) := by
  have hexec := exec_debounceExpiry_becomes m.line encoder running due hcandidate hlevel
  rwa [State.inputChanged_button (s := s.recognized m.line) moving] at hexec

theorem State.button_ends {s : State} {encoder : Option Word16} {m m' : HandMove} {active : Bool}
    (hand : s.hand.state = .hand) (hstep : s.seq.step = none) (moving : s.role = .barrier ∨ s.role = .hoist)
    (move : s.hand.move = some m) (running : s.isRunning = true) (due : s.inputs[m'.line].timer.due s.clock = true)
    (hcandidate : s.inputs[m'.line].candidate = active) (hlevel : s.inputs[m'.line].level = !active)
    (h : active = false ∧ m' = m ∨ active = true ∧ m' = m.other) :
    ∃ t, exec (.debounceExpiry m'.line encoder) s = .next t ∧ t.hand.move = none ∧ t.level.speedRef = 0 := by
  have hexec := exec_debounceExpiry_button encoder moving running due hcandidate hlevel
  have hends := State.handButtonChanged_ends (s := s.recognized m'.line) move h
  have hended := State.endHandMove_of_move (s := s.recognized m'.line) move
  have hkept : (s.recognized m'.line).endHandMove.seq = s.seq := State.endHandMove_seq _
  have hstate : (s.recognized m'.line).endHandMove.hand.state = s.hand.state := State.endHandMove_handState _
  rw [hends] at hexec
  generalize (s.recognized m'.line).endHandMove = x at *
  exact ⟨_, hexec, State.conclude_of_ended (hstate.trans hand) (by rw [hkept, hstep]) (.inl hended)⟩

/-- Settles O15: the buttons begin and end a move at their recognition, and at the end of the event in HAND the move ends
if its end has come (`State.conclude_in_hand`). -/
theorem handMovesFollowButtons : Obligations.HandMovesFollowButtons := by
  intro s encoder m running hand hstep button own other limit becomes ends
  have hbutton (d : HandMove) : button d = d.line := by cases d <;> rfl
  have hown : own = m.line := hbutton m
  have hother : other = m.other.line := hbutton m.other
  have hlimit : limit = m.limitLine s.role := rfl
  have hinHand : s.hand.state = .hand := beq_iff_eq.mp hand
  clear_value own other limit
  subst hown hother hlimit
  have hgi (i : Fin 16) (hi : 4 ≤ i.val) : (s.recognized m.line).gi i = s.gi i := s.recognized_button_gi m hi
  have hlimit : (s.recognized m.line).gi (m.limitLine (s.recognized m.line).role) = s.gi (m.limitLine s.role) :=
    hgi _ (m.le_limitLine _)
  have hreleased (released : s.gi m.other.line = false) : (s.recognized m.line).gi m.other.line = false :=
    (s.recognized_gi_ne m.line_ne_other).trans released
  refine ⟨fun role ⟨due, hactive, hlevel⟩ released still => ?_, fun role ⟨due, hactive, hlevel⟩ released still => ?_,
    fun moving move => ⟨fun ⟨due, hactive, hlevel⟩ => ?_, fun ⟨due, hactive, hlevel⟩ => ?_,
      fun ⟨due, hactive, hlevel⟩ => ?_⟩, fun role move i tracked flag due lost => ?_⟩
  · have hexec := exec_debounceExpiry_button encoder (.inl role) running due hactive hlevel
    have hiff : (s.recognized m.line).handMoveRefused m = true ↔
        s.halted = true ∨ s.gi (m.limitLine s.role) = true ∨ m = .up ∧ s.lockedInput = true := by
      rw [State.handMoveRefused_barrier_iff (s := s.recognized m.line) role, hlimit,
        show (s.recognized m.line).lockedInput = s.lockedInput from hgi 6 (by decide)]
      rfl
    refine ⟨_, hexec, fun free => ?_, fun refused => ?_⟩
    · rw [State.handButtonChanged_begins (s := s.recognized m.line) hand still (hreleased released)
        (Bool.eq_false_iff.mpr (mt hiff.mp free))]
      simp only [not_or, Bool.not_eq_true] at free
      obtain ⟨hfree, hlim, -⟩ := free
      obtain ⟨hmove, -, hidle, hhalted, hrunning, hrole⟩ := State.conclude_of_begun (before := s) (u := s.recognized m.line)
        (m := m) (.inl role) hinHand hstep hfree (hlimit.trans hlim) fun h => absurd (role.symm.trans h) (by decide)
      generalize State.conclude s ((s.recognized m.line).beginHandMove m) = t at *
      have hrunning' : t.isRunning = true := hrunning.trans running
      have hrole' : t.role = .barrier := hrole.trans role
      refine ⟨hmove, ?_, ?_⟩
      · simp [State.armUp, hrunning', hrole', hhalted, State.doing_of_none hidle, hmove, beq_eq_decide]
      · simp [State.armDown, hrunning', hrole', hhalted, State.doing_of_none hidle, hmove, beq_eq_decide]
    · rw [State.handButtonChanged_refused (s := s.recognized m.line) still (hiff.mpr refused)]
      exact (State.conclude_carries s _).move still
  · have hexec := exec_debounceExpiry_button encoder (.inr role) running due hactive hlevel
    have hiff : (s.recognized m.line).handMoveRefused m = true ↔ s.halted = true ∨ s.hoistPeersTracked = false ∨
        s.gi (m.limitLine s.role) = true ∨ m = .up ∧ s.seatedInput = true ∧ s.locksOut = false := by
      rw [State.handMoveRefused_hoist_iff (s := s.recognized m.line) role, hlimit,
        show (s.recognized m.line).seatedInput = s.seatedInput from hgi 4 (by decide),
        show (s.recognized m.line).locksOut = s.locksOut from hgi 6 (by decide)]
      rfl
    refine ⟨_, hexec, fun free => ?_, fun refused => ?_⟩
    · rw [State.handButtonChanged_begins (s := s.recognized m.line) hand still (hreleased released)
        (Bool.eq_false_iff.mpr (mt hiff.mp free))]
      simp only [not_or, Bool.not_eq_true, Bool.not_eq_false] at free
      obtain ⟨hfree, htracked, hlim, -⟩ := free
      obtain ⟨hmove, hlevel', -, hhalted, hrunning, hrole⟩ := State.conclude_of_begun (before := s)
        (u := s.recognized m.line) (m := m) (.inr role) hinHand hstep hfree (hlimit.trans hlim) fun _ => htracked
      rw [if_pos (show (s.recognized m.line).role = .hoist from role)] at hlevel'
      generalize State.conclude s ((s.recognized m.line).beginHandMove m) = t at *
      have hrunning' : t.isRunning = true := hrunning.trans running
      have hrole' : t.role = .hoist := hrole.trans role
      refine ⟨hmove, ?_, ?_, hlevel'⟩
      · simp [State.driveEnable, hrunning', hrole', hhalted, hmove]
      · simp [State.brakeRelease, hrunning', hrole', hhalted, hmove]
    · rw [State.handButtonChanged_refused (s := s.recognized m.line) still (hiff.mpr refused)]
      refine ⟨(State.conclude_carries s _).move still, ?_⟩
      obtain ⟨-, hkept, -⟩ := State.conclude_in_hand (before := s) (x := s.recognized m.line) hinHand hstep
      rw [hkept, State.followHandMove_of_none (s := s.recognized m.line) still]
      rfl
  · exact State.button_ends hinHand hstep moving move running due hactive hlevel (.inl ⟨rfl, rfl⟩)
  · exact State.button_ends hinHand hstep moving move running due hactive hlevel (.inr ⟨rfl, rfl⟩)
  · have hexec := exec_debounceExpiry_becomes (m.limitLine s.role) encoder running due hactive hlevel
    have hx : (s.recognized (m.limitLine s.role)).inputChanged (m.limitLine s.role) true encoder =
        s.recognized (m.limitLine s.role) := State.inputChanged_limit (s := s.recognized (m.limitLine s.role)) moving m _ _
    rw [hx] at hexec
    refine ⟨_, hexec, State.conclude_of_ended hinHand hstep (.inr ⟨moving, m, move, ?_⟩)⟩
    rw [State.handMoveEnds_iff (s := s.recognized (m.limitLine s.role)) moving move]
    exact .inl ((s.recognized_gi _).trans hactive)
  · have hexec := exec_deadlineExpiry_of_due running due
    have hlost := PeerEntry.missDeadline_of_lost tracked lost s.clock s.cfg.peerDeadline
    generalize hq : s.peers[i].missDeadline s.clock s.cfg.peerDeadline s.cfg.lostThreshold = q at hexec hlost
    refine ⟨_, hexec, State.conclude_of_ended hinHand hstep (.inr ⟨.inr role, m, move, ?_⟩)⟩
    rw [State.handMoveEnds_iff (s := s.setPeer i q) (.inr role) move]
    refine .inr ⟨role, ?_⟩
    by_contra hall
    have hentry := (s.setPeer i q).hoistPeersTracked_iff.mp (by simpa using hall) i
    have hself : (s.setPeer i q).peers[i] = q := by simp [State.setPeer]
    rw [hself, hlost] at hentry
    exact absurd (hentry ((PeerEntry.has_iff _ _).mpr ⟨nofun, flag⟩)) nofun

end Sys2Proof.Machine

/-!
PROOFS. The control period expiries that halt a hoist (O40).
-/

namespace Sys2Proof.Machine

/-! ### The work of an expiry -/

theorem exec_controlPeriodExpiry {s : State} (due : s.level.timer.due s.clock = true) (running : s.isRunning = true)
    (role : s.role = .hoist) (encoder : Option Word16) : exec (.controlPeriodExpiry encoder) s =
      .next (State.conclude s (s.nextControlPeriod.controlExpiry encoder)) := by
  have hstage : s.stage = .running := beq_iff_eq.mp running
  show execControlPeriodExpiry encoder s = _
  unfold execControlPeriodExpiry
  rw [due, hstage, role]
  rfl

theorem State.controlWork_of_travel {s : State} (free : s.halted = false) (travel : s.hoistTravel = true) :
    s.controlWork = if s.seq.stopping then .stopping (s.doing .raise .forward) else .travel (s.doing .raise .forward) := by
  unfold State.controlWork
  rw [free, travel]
  rfl

theorem State.controlExpiry_of_full {s : State} {h : Word16} {w : ControlWork} {up : Bool}
    (work : (s.readHeight h).controlWork = w) (kind : w = .travel up ∨ w = .stopping up ∨ w = .hand up) :
    s.controlExpiry (some h) = (s.readHeight h).fullComputation w up := by
  have hexpiry := s.controlExpiry_some h
  generalize s.controlExpiry (some h) = x at *
  cases hexpiry with
  | none hw => rcases kind with rfl | rfl | rfl <;> rw [work] at hw <;> cases hw
  | skewOnly hw => rcases kind with rfl | rfl | rfl <;> rw [work] at hw <;> cases hw
  | full w' up' hw kind' =>
    obtain rfl : w = w' := work.symm.trans hw
    rcases kind with rfl | rfl | rfl <;> rcases kind' with h | h | h <;> cases h <;> rfl

/-- In travel an expiry does the full computation, up in a RAISE (R96). -/
theorem State.controlExpiry_of_travel {s : State} (free : s.halted = false) (travel : s.hoistTravel = true) (h : Word16) :
    ∃ w, s.controlExpiry (some h) = (s.readHeight h).fullComputation w (s.doing .raise .forward) ∧
      (w = .travel (s.doing .raise .forward) ∨ w = .stopping (s.doing .raise .forward)) := by
  have hwork := State.controlWork_of_travel (s := s.readHeight h) free travel
  cases hstop : s.seq.stopping with
  | false =>
    rw [if_neg (by rw [show (s.readHeight h).seq = s.seq from rfl, hstop]; decide)] at hwork
    exact ⟨_, State.controlExpiry_of_full hwork (.inl rfl), .inl rfl⟩
  | true =>
    rw [if_pos (by rw [show (s.readHeight h).seq = s.seq from rfl, hstop])] at hwork
    exact ⟨_, State.controlExpiry_of_full hwork (.inr (.inl rfl)), .inr rfl⟩

/-! ### The expiries that halt -/



theorem State.Alike.trans {s t u : State} (h : s.Alike t) (h' : t.Alike u) : s.Alike u :=
  ⟨h'.own.trans h.own, h'.mask.trans h.mask, h'.halt.trans h.halt, h'.step.trans h.step, h'.journal.trans h.journal,
    h'.handState.trans h.handState, h'.sequence.trans h.sequence, h'.waiting ∘ h.waiting⟩

theorem State.throughReference_alike (s : State) (w : ControlWork) (up : Bool) :
    s.Alike (s.throughReference w up).judgeSeating := ⟨rfl, rfl, rfl, rfl, rfl, rfl, rfl, id⟩

theorem State.throughReference_judged (s : State) (w : ControlWork) (up : Bool) :
    (s.throughReference w up).judgeSeating.role = s.role ∧
      (s.throughReference w up).judgeSeating.level.height = s.level.height := ⟨rfl, rfl⟩

/-- A LOWER below the seat is overtravel (R84, R107). -/
theorem State.endOfTravel_of_below {s : State} (lowering : s.doing .raise .inverse = true) (above : s.seatedInput = false)
    (below : s.level.height + s.cfg.seatBand < s.cfg.hSeat) : s.endOfTravel = s.judgeSeating.raiseCause .overtravel := by
  have hseating : (if s.doing .raise .inverse && !s.seq.stopping && s.nearSeat then
      { s with hoist := { s.hoist with seatingStage := true } } else s) = s.judgeSeating := by
    unfold State.judgeSeating
    cases s.doing .raise .inverse && !s.seq.stopping && s.nearSeat <;> simp
  unfold State.endOfTravel
  rw [hseating]
  exact if_pos (by
    rw [show s.judgeSeating.doing .raise .inverse = true from lowering,
      show s.judgeSeating.seatedInput = false from above]
    exact decide_eq_true (p := s.judgeSeating.level.height + s.judgeSeating.cfg.seatBand < s.judgeSeating.cfg.hSeat) below)

/-- Settles O40: each cause is raised at the event itself, which finds the station free (`State.raiseCause_of_free`) or in
free travel (`State.travelHaltedBy_of_raised`). -/
theorem controlPeriodHalts : Obligations.ControlPeriodHalts := by
  intro s due running role low high
  have hexec := exec_controlPeriodExpiry due running role
  have known : s.own < 32 := by omega
  refine ⟨fun habsent => ?_, fun h free travel habsent trip => ?_, fun h still lowering above free untripped below => ?_⟩
  · let u : State := s.nextControlPeriod.noComputation
    have hexec' : exec (.controlPeriodExpiry none) s = .next (State.conclude s (u.raiseCause .encoder)) := hexec none
    have hcarries := (u.raiseCause_carries .encoder).trans (State.conclude_carries s (u.raiseCause .encoder))
    obtain ⟨hhas, horigin⟩ := State.raiseCause_has (s := u) habsent known
    have hrecord := State.sequenced_keeps_record (s := u.raiseCause .encoder)
      (s.reversalStopped (u.raiseCause .encoder)) (by rw [State.own_of_still (u.raiseCause_still _)]; exact known) .encoder
      s.own hhas horigin
    rw [← State.conclude_halt] at hrecord
    refine ⟨_, hexec', ?_, hrecord.2, hcarries.height, hcarries.skew, hcarries.reference rfl, fun free => ?_⟩
    · rw [← HaltRecord.has_of_latched _ rfl]
      exact hrecord.1
    · obtain ⟨-, hstopped, -⟩ := State.raiseCause_of_free (s := u) free habsent known
      obtain ⟨-, -, ⟨hidle, -⟩, hrest, -⟩ := hstopped.conclude s
      exact ⟨hidle, hrest⟩
  · obtain ⟨w, hw, -⟩ := State.controlExpiry_of_travel (s := s.nextControlPeriod) free travel h
    have hx := State.fullComputation_of_trip (s := s.nextControlPeriod.readHeight h) w
      (s.nextControlPeriod.doing .raise .forward) trip
    let u : State := (s.nextControlPeriod.readHeight h).throughSkew
    have hexec' : exec (.controlPeriodExpiry (some h)) s = .next (State.conclude s (u.raiseCause .skewTrip)) := by
      rw [hexec, hw, hx]
    obtain ⟨hhalt, hstopped, hjournal⟩ := State.raiseCause_of_free (s := u) free habsent known
    have hrecovered : (u.raiseCause .skewTrip).inRecovery = false :=
      (u.raiseCause_inRecovery _).trans (State.inRecovery_of_role (s := u) (by rw [show u.role = .hoist from role]; decide))
    obtain ⟨hhalt', -, ⟨hidle, -⟩, hrest, -, -, -, hlevel, hjournal', -⟩ := hstopped.conclude s
    have hline : (u.raiseCause .skewTrip).level.line = s.level.line ∧ (u.raiseCause .skewTrip).level.height = h.toNat := by
      rcases u.raiseCause_level_keptOrStopped .skewTrip with hl | hl <;> rw [hl] <;> exact ⟨rfl, rfl⟩
    rw [hhalt] at hhalt'
    generalize State.conclude s (u.raiseCause .skewTrip) = t at *
    refine ⟨t, hexec', ?_, by rw [hhalt']; rfl, by rw [hhalt'], by rw [hlevel, hline.2], by rw [hlevel, hline.1], hidle,
      (hjournal' hrecovered).trans hjournal, hrest⟩
    rw [hhalt', HaltRecord.put_of_latched rfl]
    exact (causeHas_causeAdd _ _ _).trans (by simp)
  · obtain ⟨-, travel, -, hfree, habsent, -, -, -⟩ := free
    obtain ⟨w, hw, -⟩ := State.controlExpiry_of_travel (s := s.nextControlPeriod) hfree travel h
    have hx := State.fullComputation_of_no_trip (s := s.nextControlPeriod.readHeight h) w
      (s.nextControlPeriod.doing .raise .forward) untripped
    let v : State := (s.nextControlPeriod.readHeight h).throughReference w (s.nextControlPeriod.doing .raise .forward)
    have hend : v.endOfTravel = v.judgeSeating.raiseCause .overtravel :=
      State.endOfTravel_of_below (s := v) lowering above below
    have hexec' : exec (.controlPeriodExpiry (some h)) s =
        .next (State.conclude s (v.judgeSeating.raiseCause .overtravel)) := by
      rw [hexec, hw, hx, ← hend]
    have halike : s.Alike v.judgeSeating := State.Alike.trans (t := s.nextControlPeriod.readHeight h)
      ⟨rfl, rfl, rfl, rfl, rfl, rfl, rfl, id⟩ (State.throughReference_alike _ _ _)
    obtain ⟨hrole, hread⟩ := State.throughReference_judged (s.nextControlPeriod.readHeight h) w
      (s.nextControlPeriod.doing .raise .forward)
    have hrecovered : v.judgeSeating.inRecovery = false :=
      State.inRecovery_of_role (by rw [hrole.trans role]; decide)
    have hheight := ((v.judgeSeating.raiseCause_carries .overtravel).trans
      (State.conclude_carries s (v.judgeSeating.raiseCause .overtravel))).height
    replace hheight := hheight.trans hread
    have hhalted := State.travelHaltedBy_of_raised (before := s) halike (c := .overtravel) rfl hfree habsent known
      (State.step_ne_none_of_hoistTravel travel) hrecovered (code := 5) rfl
    generalize State.conclude s (v.judgeSeating.raiseCause .overtravel) = t at *
    exact ⟨t, hexec', hhalted, hheight⟩

end Sys2Proof.Machine

/-!
PROOFS. The control period outside travel and hand moves (O37).
-/

namespace Sys2Proof.Machine

/-! ### A station at which no travel step can begin -/

/-- What keeps a hoist from beginning a travel step through the whole of an event: the skew (R81, R83), the readiness of
its peers, no handshake and none to come (R80), or no candidate at all (R39). -/
def State.travelBarred (s : State) : Prop :=
  s.skewAllowsStart = false ∨
    (s.permissive .hoistsReadyUp = false ∧ s.permissive .hoistsReadyDown = false) ∨
    (s.hoist.handshake = .none ∧ (s.permissive .agreed = false ∨ s.inHand = true)) ∨
    (s.seq.step = none ∧ s.journalCandidate = none)

theorem State.skewAllowsStart_congr {s t : State} (hstill : t.still = s.still) :
    t.skewAllowsStart = s.skewAllowsStart := by
  have hlevel : t.level.still = s.level.still := congrArg Still.level hstill
  have hpeers : t.peers = s.peers := congrArg Still.peers hstill
  rw [State.skewAllowsStart, State.skewAllowsStart, show t.level.skew = s.level.skew from congrArg LevelStill.skew hlevel,
    show t.level.skewFull = s.level.skewFull from congrArg LevelStill.skewFull hlevel, State.cfg_of_still hstill,
    State.flagged, State.flagged, hpeers]

theorem State.journalCandidate_congr {s t : State} (hstill : t.still = s.still) (hjournal : t.seq.journal = s.seq.journal) :
    t.journalCandidate = s.journalCandidate := by
  rw [State.journalCandidate, State.journalCandidate, State.adoptedKind, State.adoptedKind, hjournal,
    show t.demand.adopted = s.demand.adopted from State.adopted_of_still hstill, State.role_of_still hstill]

/-- What bars travel is kept where the handshake is no more than it was, the hand state HAND stays, and a station
without a step keeps its journal. -/
theorem State.travelBarred.of_parts {s t : State} (h : s.travelBarred) (hstill : t.still = s.still)
    (hshake : s.hoist.handshake = .none → s.permissive .agreed = false ∨ s.inHand = true → t.hoist.handshake = .none)
    (hhand : s.inHand = true → t.inHand = true)
    (hidle : s.seq.step = none → s.journalCandidate = none → t.seq.step = none ∧ t.seq.journal = s.seq.journal) :
    t.travelBarred := by
  rcases h with h | ⟨hup, hdown⟩ | ⟨hnone, h⟩ | ⟨hstep, hcandidate⟩
  · exact .inl ((State.skewAllowsStart_congr hstill).trans h)
  · exact .inr (.inl ⟨(State.permissive_congr (p := .hoistsReadyUp) hstill nofun).trans hup,
      (State.permissive_congr (p := .hoistsReadyDown) hstill nofun).trans hdown⟩)
  · exact .inr (.inr (.inl ⟨hshake hnone h,
      h.imp (fun h => (State.permissive_congr (p := .agreed) hstill nofun).trans h) hhand⟩))
  · obtain ⟨hstep', hjournal⟩ := hidle hstep hcandidate
    exact .inr (.inr (.inr ⟨hstep', (State.journalCandidate_congr hstill hjournal).trans hcandidate⟩))

theorem State.handshakeNow_of_none {s : State} (hshake : s.hoist.handshake = .none)
    (h : s.permissive .agreed = false ∨ s.inHand = true) : s.handshakeNow = .none := by
  unfold State.handshakeNow
  split
  · rfl
  next hfree =>
    rcases h with agreed | hand
    · have hentered : s.handshakeEntered = .none := by
        unfold State.handshakeEntered
        split <;> simp [State.agreedOn, agreed]
      simp [hshake, hentered]
    · simp [hand] at hfree

theorem State.grantHand_inHand {s : State} (h : s.inHand = true) : s.grantHand = s := by
  have hstate : s.hand.state = .hand := by simpa [State.inHand] using h
  simp [State.grantHand, hstate]

theorem State.grantHand_handshake {s : State} (h : s.hoist.handshake = .none) : s.grantHand.hoist.handshake = .none := by
  unfold State.grantHand State.enterHand State.discardInterrupted
  split
  · split <;> rfl
  · exact h

theorem State.settle_handshake_of_none {s : State} (hshake : s.hoist.handshake = .none)
    (h : s.permissive .agreed = false ∨ s.inHand = true) : s.settle.hoist.handshake = .none := by
  have hgranted : s.grantHand.hoist.handshake = .none := State.grantHand_handshake hshake
  unfold State.settle
  dsimp only
  split
  · refine State.handshakeNow_of_none hgranted (h.imp (fun h => ?_) fun h => ?_)
    · exact (State.permissive_congr (p := .agreed) s.grantHand_still nofun).trans h
    · rw [State.grantHand_inHand h, h]
  · exact hgranted

theorem State.travelBarred.settle {s : State} (h : s.travelBarred) : s.settle.travelBarred := by
  obtain ⟨hjournal, -, -, -⟩ := s.settle_keeps
  refine h.of_parts s.settle_still State.settle_handshake_of_none (fun hand => ?_) fun hstep _ =>
    ⟨s.settle_seq_step.trans hstep, hjournal⟩
  have hstate : s.hand.state = .hand := by simpa [State.inHand] using hand
  have hkept := (s.settle_carries.handState (by rw [hstate]; decide)).trans hstate
  simp [State.inHand, hkept]

/-- A barred travel step does not begin (R81, R83). -/
theorem State.travelBarred.kind {s : State} (h : s.travelBarred) (role : s.role = .hoist) {st : Step}
    (candidate : s.candidate = some st) (start : s.startCondition st = true) : st.kind ≠ .raise := by
  have hsignal : s.role ≠ .signal := by rw [role]; decide
  rw [State.candidate_of_free (State.inRecovery_of_role hsignal) (State.greenLost_of_role hsignal)] at candidate
  obtain ⟨k, d⟩ := st
  rintro rfl
  rcases h with h | ⟨hup, hdown⟩ | ⟨hshake, -⟩ | ⟨-, hnone⟩
  · cases d <;> simp [State.startCondition, h] at start
  · cases d <;> simp [State.startCondition, hup, hdown] at start
  · cases d <;> simp [State.startCondition, hshake] at start
  · rw [hnone] at candidate
    cases candidate

/-- A hoist that stands as the event `x` found it, with no travel begun. -/
structure State.RestsAs (x t : State) : Prop where
  still : t.still = x.still
  level : t.level = x.level
  halt : t.halt = x.halt
  travel : t.hoistTravel = false
  barred : t.travelBarred

theorem State.leaveStep_level {s : State} (h : s.level.speedRef = 0) (timer : SupervisionTimer) :
    (s.leaveStep timer).level = s.level := by
  show { s.level with speedRef := 0 } = s.level
  rw [← h]

theorem State.beginStep_level_of_kind {s : State} {st : Step} (h : st.kind ≠ .raise) (b : Bool) :
    (s.beginStep st b).level = s.level ∧ (s.beginStep st b).hoist.handshake = s.hoist.handshake := by
  obtain ⟨k, d⟩ := st
  unfold State.beginStep
  cases k with
  | raise => exact absurd rfl h
  | lower | lock | withdraw | amber | red | green => cases d <;> exact ⟨rfl, rfl⟩

theorem State.RestsAs.settle {x t : State} (h : x.RestsAs t) : x.RestsAs t.settle where
  still := t.settle_still.trans h.still
  level := t.settle_level.trans h.level
  halt := t.settle_halt.trans h.halt
  travel := (State.hoistTravel_of_step t.settle_still t.settle_seq_step).trans h.travel
  barred := h.barred.settle

/-- A step that ends leaves the station at rest. -/
theorem State.RestsAs.left {x t u : State} (h : x.RestsAs t) (zero : x.level.speedRef = 0) {timer : SupervisionTimer}
    {journal : List JournalEntry} (begun : t.seq.step ≠ none)
    (hu : u = { t.leaveStep timer with seq := { (t.leaveStep timer).seq with journal := journal } }) : x.RestsAs u := by
  subst hu
  refine ⟨h.still, (State.leaveStep_level (by rw [h.level, zero]) timer).trans h.level, h.halt,
    State.hoistTravel_of_none rfl, h.barred.of_parts rfl (fun hshake _ => hshake) id fun hstep => absurd hstep begun⟩

/-- Every move of a barred hoist at rest leaves it at rest. -/
theorem State.RestsAs.nextMove {x t : State} (h : x.RestsAs t) (role : x.role = .hoist) (zero : x.level.speedRef = 0)
    {held b : Bool} {r : Bool × State} (hm : t.nextMove held b = some r) : x.RestsAs r.2 := by
  have hrole : t.role = .hoist := (State.role_of_still h.still).trans role
  have hcauses := State.travelCauses_of_no_travel h.travel
  have hgreen : t.greenLost = false := State.greenLost_of_role (by rw [hrole]; decide)
  unfold State.nextMove at hm
  split at hm
  next st hst =>
    have begun : t.seq.step ≠ none := fun hnone => by simp [State.stepNow, hnone] at hst
    rcases State.endMove_cases hm with ⟨hg, -⟩ | ⟨-, hne, -⟩ | ⟨-, hne, -⟩ | ⟨-, -, -, rfl⟩ | ⟨-, -, -, -, rfl⟩
    · rw [hgreen] at hg
      cases hg
    · exact absurd hcauses hne
    · exact absurd hcauses hne
    · exact h.left zero begun rfl
    · exact h.left zero begun rfl
  next hnone =>
    have hstep : t.seq.step = none := by simpa [State.stepNow] using hnone
    obtain ⟨st, candidate, -, start, -, rfl⟩ := State.beginMove_cases hm
    have hkind := h.barred.kind hrole candidate start
    obtain ⟨hlevel, hshake⟩ := State.beginStep_level_of_kind hkind b
    refine ⟨(t.beginStep_still st b).trans h.still, hlevel.trans h.level, (t.beginStep_halt st b).trans h.halt,
      State.hoistTravel_of_kind (State.beginStep_step t st b) hkind, ?_⟩
    refine h.barred.of_parts (t.beginStep_still st b) (fun hnone _ => hshake.trans hnone) (fun hand => ?_) fun _ hnone => ?_
    · rw [State.inHand, State.beginStep_hand]
      exact hand
    · rw [State.candidate_of_free (State.inRecovery_of_role (by rw [hrole]; decide)) hgreen, hnone] at candidate
      cases candidate

/-- A barred hoist at rest ends the event with the level controller and the halt record the event gave it. -/
theorem State.conclude_of_barred {before x : State} (role : x.role = .hoist) (zero : x.level.speedRef = 0)
    (travel : x.hoistTravel = false) (move : x.hand.move = none) (barred : x.travelBarred) :
    (State.conclude before x).level = x.level ∧ (State.conclude before x).halt = x.halt := by
  have hrecovered : x.inRecovery = false := State.inRecovery_of_role (by rw [role]; decide)
  have hseq := State.prepared_seq hrecovered
  have hprepared : x.RestsAs x.prepared := by
    refine ⟨x.prepared_still, x.prepared_level, x.prepared_halt,
      (State.hoistTravel_of_step x.prepared_still x.prepared_step).trans travel,
      barred.of_parts x.prepared_still (fun hshake _ => ?_) (fun hand => ?_) fun hstep _ => ?_⟩
    · rw [x.prepared_hoist, hshake]
    · rw [State.inHand, x.prepared_hand]
      exact hand
    · rw [hseq]
      exact ⟨hstep, rfl⟩
  have hrests : x.RestsAs (x.sequenced (before.reversalStopped x)) :=
    State.sequenced_keeps (P := fun t => x.RestsAs t) (fun _ ht => ht.settle) (fun _ _ _ ht hm => ht.nextMove role zero hm)
      hprepared
  have hmove := (State.sequenced_carries (before.reversalStopped x) x).move move
  have hworked : x.worked (before.reversalStopped x) = x.sequenced (before.reversalStopped x) :=
    State.followHandMove_of_none hmove
  rw [State.conclude_level, State.conclude_halt, hworked]
  exact ⟨hrests.level, hrests.halt⟩

/-! ### The expiry -/

theorem State.controlExpiry_of_rest {s : State} {h : Word16} (work : (s.readHeight h).controlWork = .none) :
    s.controlExpiry (some h) = (s.readHeight h).noComputation := by
  have hexpiry := s.controlExpiry_some h
  generalize s.controlExpiry (some h) = x at *
  cases hexpiry with
  | none => rfl
  | skewOnly hw => cases work.symm.trans hw
  | full w up hw kind => rcases kind with rfl | rfl | rfl <;> cases work.symm.trans hw

theorem State.controlExpiry_of_skewOnly {s : State} {h : Word16} (work : (s.readHeight h).controlWork = .skewOnly) :
    s.controlExpiry (some h) = (s.readHeight h).skewOnly := by
  have hexpiry := s.controlExpiry_some h
  generalize s.controlExpiry (some h) = x at *
  cases hexpiry with
  | none hw => cases work.symm.trans hw
  | skewOnly => rfl
  | full w up hw kind => rcases kind with rfl | rfl | rfl <;> cases work.symm.trans hw

theorem State.controlWork_of_halted {s : State} (halted : s.halted = true) : s.controlWork = .none := by
  simp [State.controlWork, halted]

theorem State.controlWork_of_rest {s : State} (free : s.halted = false) (travel : s.hoistTravel = false)
    (move : s.hand.move = none) :
    s.controlWork = if s.hoist.handshake = .none then .none else .skewOnly := by
  cases hshake : s.hoist.handshake <;> simp [State.controlWork, free, travel, move, hshake]

/-- A hoist under OPEN with RAISE DONE on top has no candidate (R39). -/
theorem State.journalCandidate_of_raised {s : State} (kind : s.adoptedKind = some .openBridge)
    (step : s.seq.journal.head?.map (·.step) = some .raise) (done : s.seq.journal.head?.map (·.state) = some .done) :
    s.journalCandidate = none := by
  cases hjournal : s.seq.journal with
  | nil => simp [hjournal] at step
  | cons e es =>
    simp only [hjournal, List.head?_cons, Option.map_some, Option.some.injEq] at step done
    simp [State.journalCandidate, kind, hjournal, step, done, ForwardStep.next]

theorem State.conclude_levelStill (before x : State) : (State.conclude before x).level.still = x.level.still := by
  have hstill := State.conclude_still before x
  generalize State.conclude before x = t at *
  exact congrArg Still.level hstill

/-- An expiry that leaves the hoist at rest sends a reference of 0, and ends with the level controller so formed unless a
travel step begins. -/
theorem exec_controlPeriodExpiry_of_rest {s x : State} {h : Word16} (due : s.level.timer.due s.clock = true)
    (running : s.isRunning = true) (role : s.role = .hoist) (hx : s.nextControlPeriod.controlExpiry (some h) = x)
    (same : x.role = s.role) (zero : x.level.speedRef = 0) :
    ∃ t, exec (.controlPeriodExpiry (some h)) s = .next t ∧ t.level.still = x.level.still ∧ t.level.speedRef = 0 ∧
      (x.stopped ∨ x.hoistTravel = false ∧ x.hand.move = none ∧ x.travelBarred →
        t.level = x.level ∧ t.halt = x.halt) := by
  refine ⟨_, (exec_controlPeriodExpiry due running role (some h)).trans (by rw [hx]), State.conclude_levelStill s x,
    (State.conclude_carries s x).reference zero, fun hcase => ?_⟩
  rcases hcase with stopped | ⟨travel, move, barred⟩
  · obtain ⟨hhalt, -, -, -, -, -, -, hlevel, -⟩ := stopped.conclude s
    exact ⟨hlevel, hhalt⟩
  · exact State.conclude_of_barred (same.trans role) zero travel move barred

theorem State.flagged_hoist_of_peer {s : State} {i : Fin 16} (present : s.peers[i].state ≠ .vacant)
    (flag : s.peers[i].flags.getLsbD 5 = true) : s.flagged .hoist ≠ [] := by
  have hmem : s.peers[i] ∈ s.flagged .hoist := by
    rw [State.flagged, List.mem_filter]
    exact ⟨by simp, (Bool.and_eq_true _ _).mpr ⟨by simpa using present, flag⟩⟩
  exact List.ne_nil_of_mem hmem

/-- Settles O37: an expiry at rest puts the level controller so (R96), and the event ends with it unless a travel step
begins (`State.conclude_of_barred`). -/
theorem controlPeriodAtRest : Obligations.ControlPeriodAtRest := by
  intro s encoder start htimer elapsed
  have due : s.level.timer.due s.clock = true := by
    rw [htimer]
    exact decide_eq_true elapsed
  refine ⟨fun hstage => ?_, fun running role h hencoder => ?_⟩
  · show execControlPeriodExpiry encoder s = _
    unfold execControlPeriodExpiry
    rw [due, State.nextControlPeriod, htimer]
    rcases hstage with hstage | hstage <;> rw [hstage] <;> rfl
  subst hencoder
  intro resting skew
  refine ⟨fun hcase => ?_, fun free hrest hshake => ?_⟩
  · intro rest hoistPeer atTop
    let r := s.nextControlPeriod.readHeight h
    have hwork : r.controlWork = .none := by
      rcases hcase with ⟨halted, -⟩ | ⟨free, ⟨travel, move⟩, hshake⟩
      · exact State.controlWork_of_halted (s := r) halted
      · exact (State.controlWork_of_rest (s := r) free travel move).trans (if_pos hshake)
    obtain ⟨t, hexec, hstill, hzero, hends⟩ := exec_controlPeriodExpiry_of_rest due running role
      (State.controlExpiry_of_rest hwork) rfl rfl
    have hlevel : (s.nextControlPeriod.readHeight h).noComputation.level = rest := by
      show { s.level with
        timer := s.level.timer.nextBeat, height := h.toNat, expiryHeight := h.toNat, speedRef := 0, line := some 0,
        skew := none, skewFull := false, skewWarn := false } = rest
      rw [htimer]
      rfl
    rw [hlevel] at hstill hends
    refine ⟨t, hexec, hstill, hzero, fun hquiet => hends ?_⟩
    rcases hcase with ⟨halted, fits⟩ | ⟨free, ⟨travel, move⟩, hshake⟩
    · obtain ⟨hstep, hmove, -⟩ := fits.1 halted
      exact .inl ⟨halted, hstep, hmove, rfl⟩
    · refine .inr ⟨travel, move, ?_⟩
      rcases hquiet with halted | ⟨i, present, flag⟩ | agreed | hand | ⟨hstep, kind, step, done⟩
      · rw [free] at halted
        cases halted
      · refine .inl (Bool.eq_false_iff.mpr fun hstart => ?_)
        rcases State.skewAllowsStart_iff.mp hstart with ⟨k, hk, -⟩ | ⟨-, hnone⟩
        · cases hk
        · exact State.flagged_hoist_of_peer present flag hnone
      · exact .inr (.inr (.inl ⟨hshake, .inl agreed⟩))
      · exact .inr (.inr (.inl ⟨hshake, .inr hand⟩))
      · exact .inr (.inr (.inr ⟨hstep, State.journalCandidate_of_raised (s := r.noComputation) kind step done⟩))
  · intro formed
    obtain ⟨travel, move⟩ := hrest
    let r := s.nextControlPeriod.readHeight h
    have hwork : r.controlWork = .skewOnly :=
      (State.controlWork_of_rest (s := r) free travel move).trans (if_neg hshake)
    obtain ⟨t, hexec, hstill, hzero, hends⟩ := exec_controlPeriodExpiry_of_rest due running role
      (State.controlExpiry_of_skewOnly hwork) rfl rfl
    have hlevel : (s.nextControlPeriod.readHeight h).skewOnly.level = formed := by
      show { s.level with
        timer := s.level.timer.nextBeat, height := h.toNat, expiryHeight := h.toNat, speedRef := 0, line := some 0,
        skew := some skew, skewFull := s.hoistPeersTracked, skewWarn := decide (s.cfg.skewWarn < skew) } = formed
      rw [htimer]
      rfl
    rw [hlevel] at hstill hends
    refine ⟨t, hexec, hstill, hzero, fun hup hdown => ?_, fun hskew => ?_⟩
    · exact (hends (.inr ⟨travel, move, .inr (.inl ⟨hup, hdown⟩)⟩)).1
    · refine (hends (.inr ⟨travel, move, .inl (Bool.eq_false_iff.mpr fun hstart => ?_)⟩)).1
      rcases State.skewAllowsStart_iff.mp hstart with ⟨k, hk, hle, -⟩ | ⟨hnone, -⟩
      · rw [hlevel] at hk
        obtain rfl : skew = k := Option.some.inj hk
        exact absurd hskew (not_lt.mpr hle)
      · rw [hlevel] at hnone
        cases hnone

end Sys2Proof.Machine

/-!
PROOFS. The full computation of a control period expiry that neither trips nor ends the motion (O38).
-/

namespace Sys2Proof.Machine

/-! ### What a full computation forms -/

/-- The extrapolated heights, read off the peer table in one pass (R97). -/
theorem State.peerHeights_eq (s : State) : s.peerHeights = s.peers.toList.filterMap fun p =>
    if p.state = .tracked ∧ p.flags.getLsbD 5 = true then
      p.report.bind fun r => r.body.hoist.map fun q =>
        let age := min 250 (s.clock - r.receipt).toNat
        (max 0 (min 65535 ((q.height.toNat : Int) + Int.tdiv (q.speed.toInt * age) 1000))).toNat
    else none := by
  rw [State.peerHeights, State.flagged, List.filterMap_filter]
  congr 1
  funext p
  unfold PeerEntry.extrapolated PeerEntry.has
  rw [show p.flags.getLsbD DepFlag.hoist.bit = p.flags.getLsbD 5 from rfl]
  by_cases hstate : p.state = .tracked
  · simp only [hstate, clampInt_eq_max_min, extrapolate, beq_self_eq_true, if_true, true_and]
    rfl
  · simp [hstate]

theorem State.throughReference_level (s : State) (w : ControlWork) (up : Bool) :
    (s.throughReference w up).judgeSeating.level = { s.level with
      mean := meanHeight s.level.height s.peerHeights
      error := levelError s.level.height (meanHeight s.level.height s.peerHeights)
      accumulator := accumulate s.level.accumulator (levelError s.level.height (meanHeight s.level.height s.peerHeights))
      sat := s.level.sat || accumulate s.level.accumulator (levelError s.level.height
        (meanHeight s.level.height s.peerHeights)) != s.level.accumulator + levelError s.level.height
        (meanHeight s.level.height s.peerHeights)
      skew := some (skewOf s.level.height s.peerHeights)
      skewFull := s.hoistPeersTracked
      skewWarn := decide (s.cfg.skewWarn < skewOf s.level.height s.peerHeights)
      profile := s.formedProfile w
      speedRef := s.formedReference w up
      line := some (s.formedReference w up) } := rfl

/-- What the stages up to the reference leave as it was. -/
theorem State.throughReference_keeps (s : State) (w : ControlWork) (up : Bool) :
    let x := (s.throughReference w up).judgeSeating
    x.seq = s.seq ∧ x.hand = s.hand ∧ x.halt = s.halt ∧ x.peers = s.peers ∧ x.cfg = s.cfg ∧ x.inputs = s.inputs ∧
      x.handMoveEnds = s.handMoveEnds := ⟨rfl, rfl, rfl, rfl, rfl, rfl, rfl⟩

/-- A computation that meets neither overtravel nor the end of a stop judges the seating stage alone (R107). -/
theorem State.endOfTravel_of_going {s : State}
    (above : s.doing .raise .inverse = true → s.cfg.hSeat ≤ s.level.height + s.cfg.seatBand)
    (going : s.hoistTravel = true → s.seq.stopping = true → s.level.profile ≠ 0) : s.endOfTravel = s.judgeSeating := by
  have hseating : (if s.doing .raise .inverse && !s.seq.stopping && s.nearSeat then
      { s with hoist := { s.hoist with seatingStage := true } } else s) = s.judgeSeating := by
    unfold State.judgeSeating
    cases s.doing .raise .inverse && !s.seq.stopping && s.nearSeat <;> simp
  unfold State.endOfTravel
  rw [hseating]
  have habove : ¬(s.judgeSeating.doing .raise .inverse && !s.judgeSeating.seatedInput &&
      decide (s.judgeSeating.level.height + s.judgeSeating.cfg.seatBand < s.judgeSeating.cfg.hSeat)) = true := by
    intro h
    simp only [Bool.and_eq_true, decide_eq_true_eq] at h
    exact absurd (above h.1.1) (not_le.mpr h.2)
  have hgoing : ¬(s.judgeSeating.hoistTravel && s.judgeSeating.seq.stopping && s.judgeSeating.level.profile == 0) = true := by
    intro h
    simp only [Bool.and_eq_true, beq_iff_eq] at h
    exact going h.1.1 h.1.2 h.2
  exact (if_neg habove).trans (if_neg hgoing)

/-! ### The motion goes on -/

/-- The step or hand move in progress in `x` goes on to `t`. -/
structure State.GoesOn (x t : State) : Prop where
  seq : t.seq = x.seq
  halt : t.halt = x.halt
  hand : t.hand = x.hand
  seating : t.hoist.seatingStage = x.hoist.seatingStage
  level : t.level = x.level

/-- A travel step that nothing ends goes on through the event. -/
theorem State.conclude_of_travelling {before x : State} {st : Step} (role : x.role ≠ .signal) (hst : x.stepNow = some st)
    (free : x.halted = false) (causes : x.travelCauses = []) (completion : x.completionCondition st = false)
    (stop : x.seatedEndsStop = false) (move : x.hand.move = none) : x.GoesOn (State.conclude before x) := by
  have hworked : x.worked (before.reversalStopped x) = x.prepared := by
    rw [State.worked, State.sequenced_of_going role hst free causes completion stop]
    exact State.followHandMove_of_none (by rw [x.prepared_hand, move])
  refine ⟨?_, ?_, ?_, ?_, ?_⟩
  · rw [State.conclude_seq, hworked, State.prepared_seq (State.inRecovery_of_role role)]
  · rw [State.conclude_halt, State.sequenced_of_going role hst free causes completion stop, x.prepared_halt]
  · rw [State.conclude_hand, hworked, x.prepared_hand]
  · rw [State.conclude_hoist, hworked, x.prepared_hoist]
  · rw [State.conclude_level, hworked, x.prepared_level]

theorem State.followHandshake_seating (s : State) : s.followHandshake.hoist.seatingStage = s.hoist.seatingStage := rfl

/-- A hand move that nothing ends goes on through the event. -/
theorem State.conclude_of_handMoving {before x : State} (role : x.role ≠ .signal) (hand : x.hand.state = .hand)
    (hstep : x.seq.step = none) (ends : x.handMoveEnds = false) : x.GoesOn (State.conclude before x) := by
  obtain ⟨hhand, hlevel, -, hhalt⟩ := State.conclude_in_hand (before := before) hand hstep
  have hgoes : x.followHandMove = x := if_neg (by simp [ends])
  rw [hgoes] at hhand hlevel
  have hsettle : x.prepared.settle = x.prepared.followHandshake :=
    State.settle_of_idle (by rw [x.prepared_hand, hand]; decide) (x.prepared_step.trans hstep)
  have hends : x.prepared.followHandshake.handMoveEnds = false :=
    (State.handMoveEnds_congr ((State.followHandshake_still _).trans x.prepared_still)
      (by rw [State.followHandshake_hand, x.prepared_hand])).trans ends
  have hworked : x.worked (before.reversalStopped x) = x.prepared.followHandshake := by
    rw [State.worked, State.sequenced_in_hand hand hstep, hsettle]
    exact if_neg (by simp [hends])
  refine ⟨?_, hhalt, hhand, ?_, hlevel⟩
  · rw [State.conclude_seq, hworked, State.followHandshake_seq, State.prepared_seq (State.inRecovery_of_role role)]
  · rw [State.conclude_hoist, hworked, State.followHandshake_seating, x.prepared_hoist]

/-! ### The expiry -/

theorem State.hoistTravel_of_doing {s : State} (role : s.role = .hoist) {d : Direction} (h : s.doing .raise d = true) :
    s.hoistTravel = true := by
  cases d <;> simp [State.hoistTravel, role, h]

theorem State.doing_raise_forward_of {s : State} {up : Bool}
    (h : s.doing .raise (if up then .forward else .inverse) = true) : s.doing .raise .forward = up := by
  cases up with
  | true => exact h
  | false =>
    simp only [Bool.false_eq_true, if_false, State.doing, beq_iff_eq] at h
    simp [State.doing, h]

/-- The profile speed before a skew warning limits it: in a hand move, in the stopping stage, in the seating stage and in
travel (R101, R102). -/
def State.motionProfile (s : State) (up : Bool) : Nat :=
  if s.hoistTravel = false then s.cfg.vCreep
  else if s.seq.stopping = true then s.level.profile - s.cfg.decel
  else if s.hoist.seatingStage = true then s.cfg.vCreep
  else travelProfile s.cfg (distance s.level.height s.level.startHeight)
    (if up then s.cfg.hTop - s.level.height else s.level.height - s.cfg.hSeat)

/-- The work of a hoist in motion, and the profile speed it forms (R96, R101, R102). -/
theorem State.controlWork_of_motion {s : State} {up : Bool} (role : s.role = .hoist) (free : s.halted = false)
    (motion : s.doing .raise (if up then .forward else .inverse) = true ∨
      s.hoistTravel = false ∧ s.hand.move = some (if up then .up else .down)) :
    ∃ w, s.controlWork = w ∧ (w = .travel up ∨ w = .stopping up ∨ w = .hand up) ∧ s.profileSpeed w = s.motionProfile up := by
  rcases motion with hdoing | ⟨travel, move⟩
  · have travel := State.hoistTravel_of_doing role hdoing
    have hwork := State.controlWork_of_travel free travel
    rw [State.doing_raise_forward_of hdoing] at hwork
    cases hstop : s.seq.stopping with
    | false =>
      refine ⟨_, hwork, ?_⟩
      rw [if_neg (by simp [hstop])]
      exact ⟨.inl rfl, by simp [State.motionProfile, State.profileSpeed, travel, hstop]⟩
    | true =>
      refine ⟨_, hwork, ?_⟩
      rw [if_pos hstop]
      exact ⟨.inr (.inl rfl), by simp [State.motionProfile, State.profileSpeed, travel, hstop]⟩
  · refine ⟨.hand up, ?_, .inr (.inr rfl), by simp [State.motionProfile, State.profileSpeed, travel]⟩
    cases up <;> simp [State.controlWork, free, travel, move]

/-- A RAISE short of the top and a LOWER off its seat do not complete, and no stopping stage does (R82, R84, R85). -/
theorem State.completionCondition_raise_of {s : State} {d : Direction}
    (top : d = .forward → s.seq.stopping = false → s.level.height + s.cfg.stopBand < s.cfg.hTop)
    (seat : d = .inverse → s.seatedInput = false) : s.completionCondition { kind := .raise, dir := d } = false := by
  cases hstop : s.seq.stopping with
  | true => simp [State.completionCondition, hstop]
  | false =>
    cases d with
    | forward => simpa [State.completionCondition, hstop] using top rfl hstop
    | inverse => simp [State.completionCondition, hstop, seat rfl]

/-- A computation that leaves the motion alone, at a hoist whose travel step or hand move nothing ends, is followed by
its going on. -/
theorem State.conclude_of_computed {s x : State} {up : Bool} {y : Nat} (role : s.role = .hoist) (free : s.halted = false)
    (same : x.seq = s.seq ∧ x.hand = s.hand ∧ x.halt = s.halt ∧ x.peers = s.peers ∧ x.cfg = s.cfg ∧
      x.inputs = s.inputs ∧ x.handMoveEnds = s.handMoveEnds) (height : x.level.height = y)
    (motion : s.doing .raise (if up then .forward else .inverse) = true ∧ s.hand.move = none ∧ s.travelCauses = [] ∨
      s.hoistTravel = false ∧ s.seq.step = none ∧ s.hand.state = .hand ∧
        s.hand.move = some (if up then .up else .down) ∧ s.handMoveEnds = false)
    (top : s.doing .raise .forward = true → s.seq.stopping = false → y + s.cfg.stopBand < s.cfg.hTop)
    (seat : s.doing .raise .inverse = true → s.seatedInput = false ∧ s.cfg.hSeat ≤ y + s.cfg.seatBand) {before : State} :
    x.GoesOn (State.conclude before x) := by
  obtain ⟨hseq, hhand, hhalt, hpeers, hcfg, hinputs, hends⟩ := same
  have hrole : x.role ≠ .signal := by
    rw [State.role, hcfg]
    exact fun hsignal => nomatch role.symm.trans hsignal
  have hgi (i : Fin 16) : x.gi i = s.gi i := by rw [State.gi, hinputs]; rfl
  rcases motion with ⟨hdoing, hmove, hcauses⟩ | ⟨-, hstep, hstate, -, hmoving⟩
  · have hstep : x.stepNow = some { kind := .raise, dir := if up then .forward else .inverse } := by
      rw [State.stepNow, hseq]
      exact beq_iff_eq.mp hdoing
    refine State.conclude_of_travelling hrole hstep ?_ ?_ ?_ ?_ (by rw [hhand, hmove])
    · rw [State.halted, hhalt]
      exact free
    · exact (State.travelCauses_of_parts hpeers hcfg (hgi 7) (by rw [hseq])).trans hcauses
    · refine State.completionCondition_raise_of (fun hd hgoing => ?_) fun hd => ?_ <;> rw [hd] at hdoing
      · rw [height, hcfg]
        exact top hdoing ((congrArg (·.stopping) hseq).symm.trans hgoing)
      · exact (hgi 4).trans (seat hdoing).1
    · refine Bool.eq_false_iff.mpr fun hends => ?_
      simp only [State.seatedEndsStop, Bool.and_eq_true] at hends
      obtain ⟨⟨-, hinverse⟩, hseated⟩ := hends
      rw [State.doing, State.stepNow, hseq] at hinverse
      exact absurd ((hgi 4).symm.trans hseated) (Bool.eq_false_iff.mp (seat hinverse).1)
  · exact State.conclude_of_handMoving hrole (by rw [hhand, hstate]) (by rw [hseq, hstep]) (hends.trans hmoving)

/-- A computation that neither trips nor ends the motion comes to the reference and the seating stage. -/
theorem State.fullComputation_of_going {s : State} {w : ControlWork} {up : Bool}
    (trip : skewOf s.level.height s.peerHeights ≤ s.cfg.skewTrip)
    (above : s.doing .raise .inverse = true → s.cfg.hSeat ≤ s.level.height + s.cfg.seatBand)
    (going : s.hoistTravel = true → s.seq.stopping = true → s.formedProfile w ≠ 0) :
    s.fullComputation w up = (s.throughReference w up).judgeSeating :=
  (State.fullComputation_of_no_trip w up trip).trans (State.endOfTravel_of_going (s := s.throughReference w up) above going)

theorem State.throughReference_seating (s : State) (w : ControlWork) (up : Bool) :
    (s.throughReference w up).judgeSeating.hoist.seatingStage = (s.hoist.seatingStage ||
      (s.doing .raise .inverse && !s.seq.stopping && decide (s.level.height ≤ s.cfg.hSeat + s.cfg.seatBand))) := rfl

/-- Settles O38: the computation goes through all its stages (`State.throughReference_level`), judges the seating stage
alone (`State.endOfTravel_of_going`), and the step or the hand move goes on (`State.GoesOn`). -/
theorem controlPeriodComputesReference : Obligations.ControlPeriodComputesReference := by
  intro s h start up htimer elapsed running role free y lowering moved hmotion htop hseat peers n m e a c done go travel
    skew unlimited profile v htrip hstops
  have due : s.level.timer.due s.clock = true := by
    rw [htimer]
    exact decide_eq_true elapsed
  have hexec := exec_controlPeriodExpiry due running role (some h)
  have hpeers : s.peerHeights = peers := s.peerHeights_eq
  have hskew : skewOf y s.peerHeights = skew := by rw [hpeers]; rfl
  let r := s.nextControlPeriod.readHeight h
  obtain ⟨w, hwork, hkind, hprofile⟩ := State.controlWork_of_motion (s := r) (up := up) role free
    (hmotion.imp (fun ⟨hdoing, _⟩ => hdoing) fun ⟨htravel, _, _, hmove, _⟩ => ⟨htravel, hmove⟩)
  replace hprofile : r.profileSpeed w = unlimited := hprofile

  have hformed : r.formedProfile w = profile := by
    show (if decide (s.cfg.skewWarn < skewOf y s.peerHeights) = true then min (r.profileSpeed w) s.cfg.vCreep
      else r.profileSpeed w) = _
    rw [hskew, hprofile]
    simp only [decide_eq_true_eq, profile]
  have hcorrection : r.formedCorrection = c := by
    show correction s.cfg.kp s.cfg.ki s.cfg.cMax (levelError y (meanHeight y s.peerHeights))
      (accumulate s.level.accumulator (levelError y (meanHeight y s.peerHeights))) = _
    rw [hpeers]
    rfl
  have hreference : r.formedReference w up = v := by
    rw [State.formedReference, hformed, hcorrection]
    rfl
  have hx : s.nextControlPeriod.controlExpiry (some h) = (r.throughReference w up).judgeSeating := by
    refine (State.controlExpiry_of_full hwork hkind).trans (State.fullComputation_of_going ?_ ?_ ?_)
    · exact hskew.trans_le htrip
    · exact fun hlowering => (hseat hlowering).2
    · rw [hformed]
      exact hstops
  have hlevel := r.throughReference_level w up
  obtain ⟨hseq, hhand, hhalt, hpeers', hcfg, hinputs, hends⟩ := r.throughReference_keeps w up
  have hseating := r.throughReference_seating w up
  rw [hx] at hexec
  generalize (r.throughReference w up).judgeSeating = x at *
  have hgoes : x.GoesOn (State.conclude s x) :=
    State.conclude_of_computed role free ⟨hseq, hhand, hhalt, hpeers', hcfg, hinputs, hends⟩ (by rw [hlevel]; rfl) hmotion
      htop hseat
  obtain ⟨hseq', hhalt', hhand', hseating', hlevel'⟩ := hgoes
  refine ⟨_, hexec, hseq'.trans hseq, hhalt'.trans hhalt, hhand'.trans hhand, ?_, ?_⟩
  · rw [hseating', hseating]
    show (s.hoist.seatingStage ||
      (s.doing .raise .inverse && !s.seq.stopping && decide (y ≤ s.cfg.hSeat + s.cfg.seatBand))) = true ↔ _
    simp [lowering, and_assoc]
  · have hsat (i j : Int) : (i != j) = decide (i ≠ j) := Bool.eq_iff_iff.mpr (by simp)
    rw [hlevel', hlevel, hsat, hformed, hreference]
    show { s.level with
      timer := s.level.timer.nextBeat, height := y, expiryHeight := y, mean := meanHeight y s.peerHeights,
      error := levelError y (meanHeight y s.peerHeights),
      accumulator := accumulate s.level.accumulator (levelError y (meanHeight y s.peerHeights)),
      sat := s.level.sat || decide (accumulate s.level.accumulator (levelError y (meanHeight y s.peerHeights)) ≠
        s.level.accumulator + levelError y (meanHeight y s.peerHeights)),
      skew := some (skewOf y s.peerHeights), skewFull := s.hoistPeersTracked,
      skewWarn := decide (s.cfg.skewWarn < skewOf y s.peerHeights), profile := profile, speedRef := v, line := some v } = _
    rw [htimer, hskew, hpeers]
    rfl

end Sys2Proof.Machine

/-!
PROOFS. The length of a RECORD (O52).
-/

namespace Sys2Proof.Machine

/-! ### The parts of a RECORD -/

/-- The six parts of a RECORD body that say its length: what stands before the presence byte, the journal with its count,
the step, the parts of fixed length after it, and the peer records with their count and all that follows (R174). -/
theorem recordLength_of_parts {station journal step fixed rest : List Byte} {presence j p : Byte}
    (hstation : station.length = 5) (hjournal : journal.length = 6 * j.toNat)
    (hstep : step.length = if presence.getLsbD 2 then 4 else 0) (hfixed : fixed.length = 22) :
    recordLength (station ++ presence :: j :: (journal ++ step ++ fixed ++ p :: rest)) =
      92 + 6 * j.toNat + 7 * p.toNat + step.length + (if presence.getLsbD 0 then 13 else 0) +
        (if presence.getLsbD 1 then 1 else 0) := by
  have hpresence : (station ++ presence :: j :: (journal ++ step ++ fixed ++ p :: rest)).getD 5 0 = presence := by
    simp [List.getD_eq_getElem?_getD, hstation]
  have hj : (station ++ presence :: j :: (journal ++ step ++ fixed ++ p :: rest)).getD 6 0 = j := by
    simp [List.getD_eq_getElem?_getD, List.getElem?_append_right, hstation]
  have hp : (station ++ presence :: j :: (journal ++ step ++ fixed ++ p :: rest)).getD
      (7 + 6 * j.toNat + step.length + 22) 0 = p := by
    have hplace : 7 + 6 * j.toNat + step.length + 22 =
        (station ++ presence :: j :: (journal ++ step ++ fixed)).length := by
      simp only [List.length_append, List.length_cons, hstation, hjournal, hfixed]
      omega
    rw [hplace, show station ++ presence :: j :: (journal ++ step ++ fixed ++ p :: rest) =
      (station ++ presence :: j :: (journal ++ step ++ fixed)) ++ p :: rest by simp, List.getD_eq_getElem?_getD,
      List.getElem?_append_right (Nat.le_refl _)]
    simp
  unfold recordLength
  simp only [hpresence, hj, ← hstep, hp]

theorem flatMap_length_of_const {α : Type} {f : α → List Byte} {n : Nat} (h : ∀ x, (f x).length = n) (xs : List α) :
    (xs.flatMap f).length = n * xs.length := by
  induction xs with
  | nil => rfl
  | cons x xs ih => rw [List.flatMap_cons, List.length_append, h, ih, List.length_cons, Nat.mul_succ, Nat.add_comm]

theorem encodePeer_length (now : Time) (p : PeerEntry) : (encodePeer now p).length = 7 := by
  unfold encodePeer
  split <;> rfl

theorem State.encodeDemand_length (s : State) : s.encodeDemand.length = 5 := by
  unfold State.encodeDemand
  split <;> rfl

theorem State.outputPairs_length (s : State) : s.outputPairs.length = 12 := by
  simp [State.outputPairs]

theorem State.listedPeers_length (s : State) : s.listedPeers.length ≤ 16 := by
  simpa [State.listedPeers] using s.peers.toList.length_filter_le (·.state != .vacant)

/-- The bytes of the station part before its presence byte (R174). -/
def State.stationCodes (s : State) : List Byte :=
  [s.role.code, if s.inHand then 1 else 0, phaseCode s.role s.phase, if s.cfg.barrierKind == .entry then 0 else 1,
    if s.cfg.approachSouth then 1 else 0]

/-- The presence byte of the station part (R174). -/
def State.presence (s : State) : Byte :=
  byteOfBits [s.role == .hoist, s.hasDetectors, s.snapshotStep.isSome, (s.snapshotStep.map (·.interrupted)).getD false]

/-- What follows the peer records (R174). -/
def State.recordTail (s : State) : List Byte :=
  s.outputPairs.flatMap encodeOutput ++ bytes16 (BitVec.ofNat 16 (bitsToNat (s.inputs.toList.map (·.level))))
    ++ (if s.role == .hoist then s.encodeLevel else []) ++ (if s.hasDetectors then [s.zoneReport] else [])

theorem State.recordBody_eq (s : State) : s.recordBody =
    s.stationCodes ++ s.presence :: byteOf s.seq.journal.length :: (s.seq.journal.reverse.flatMap encodeEntry ++
      encodePart encodeStep s.snapshotStep ++ (s.encodeHalt ++ s.encodeDemand ++ s.encodeFaults) ++
      byteOf s.listedPeers.length :: (s.listedPeers.flatMap (encodePeer s.clock) ++ s.recordTail)) := by
  simp [State.recordBody, State.encodeStation, State.stationCodes, State.presence, State.recordTail]

theorem State.presence_bits (s : State) : s.presence.getLsbD 0 = (s.role == .hoist) ∧
    s.presence.getLsbD 1 = s.hasDetectors ∧ s.presence.getLsbD 2 = s.snapshotStep.isSome := by
  refine ⟨?_, ?_, ?_⟩ <;> rw [State.presence, getLsbD_byteOfBits _ (by decide)] <;> rfl

theorem encodePart_step_length (x : Option SnapshotStep) :
    (encodePart encodeStep x).length = if x.isSome then 4 else 0 := by
  cases x <;> rfl

theorem State.recordTail_length (s : State) :
    s.recordTail.length = 62 + (if s.role = .hoist then 13 else 0) + (if s.hasDetectors then 1 else 0) := by
  have houtputs : (s.outputPairs.flatMap encodeOutput).length = 60 := by
    rw [flatMap_length_of_const (n := 5) (fun _ => rfl), s.outputPairs_length]
  rw [State.recordTail, List.length_append, List.length_append, List.length_append, houtputs]
  by_cases hrole : s.role = .hoist <;> cases s.hasDetectors <;> simp [hrole, bytes16, State.encodeLevel, bytes32]

/-- Settles O52: the body's length part by part, and the same counts read back from it (`recordLength_of_parts`). -/
theorem recordHasDeclaredLength : Obligations.RecordHasDeclaredLength := by
  intro s hjournal
  obtain ⟨hlevel, hzone, hstep⟩ := s.presence_bits
  have hjournals : s.seq.journal.length ≤ 3 := hjournal.trans (by cases s.role <;> decide)
  have hpeers := s.listedPeers_length
  have hjlen : (byteOf s.seq.journal.length).toNat = s.seq.journal.length := by
    rw [byteOf, BitVec.toNat_ofNat]
    omega
  have hplen : (byteOf s.listedPeers.length).toNat = s.listedPeers.length := by
    rw [byteOf, BitVec.toNat_ofNat]
    omega
  have hentries : (s.seq.journal.reverse.flatMap encodeEntry).length = 6 * s.seq.journal.length := by
    rw [flatMap_length_of_const (n := 6) (fun _ => rfl), List.length_reverse]
  have hfixed : (s.encodeHalt ++ s.encodeDemand ++ s.encodeFaults).length = 22 := by
    rw [List.length_append, List.length_append, s.encodeDemand_length]
    rfl
  have hlength : recordLength s.recordBody = 92 + 6 * s.seq.journal.length + 7 * s.listedPeers.length +
      (if s.snapshotStep.isSome then 4 else 0) + (if s.role = .hoist then 13 else 0) +
      (if s.hasDetectors then 1 else 0) := by
    rw [s.recordBody_eq, recordLength_of_parts rfl (hentries.trans (by rw [hjlen]))
      ((encodePart_step_length _).trans (by rw [hstep])) hfixed, encodePart_step_length, hjlen, hplen, hlevel, hzone]
    simp only [beq_iff_eq]
  have hbody : s.recordBody.length = recordLength s.recordBody := by
    rw [hlength, s.recordBody_eq]
    simp only [List.length_append, List.length_cons, hentries, encodePart_step_length, s.recordTail_length,
      flatMap_length_of_const (encodePeer_length s.clock)]
    have hcodes : s.stationCodes.length = 5 := rfl
    simp only [List.length_append] at hfixed
    omega
  refine ⟨hbody, ?_, hlength⟩
  rw [hbody, hlength]
  have hshort : 6 * s.seq.journal.length + (if s.role = .hoist then 13 else 0) + (if s.hasDetectors then 1 else 0) ≤ 25 := by
    by_cases hrole : s.role = .hoist
    · have hnone : s.hasDetectors = false := by simp [State.hasDetectors, Role.hasDetectorInputs, hrole]
      have hlist : s.seq.journal.length ≤ 2 := by rw [hrole] at hjournal; exact hjournal
      rw [if_pos hrole, hnone, if_neg (by decide)]
      omega
    · rw [if_neg hrole]
      split <;> omega
  split <;> omega

end Sys2Proof.Machine

/-!
PROOFS. A telegram framed with its check is received as that telegram (O51).
-/

namespace Sys2Proof.Machine

/-! ### Quantities of several bytes -/

theorem word16_bytes16 (x : Word16) : word16 (x.extractLsb' 8 8) (x.extractLsb' 0 8) = x := by
  rw [word16, BitVec.extractLsb'_append_extractLsb'_eq_extractLsb' (by rfl), BitVec.extractLsb'_eq_self]

theorem word32_bytes32 (x : BitVec 32) :
    word32 (x.extractLsb' 24 8) (x.extractLsb' 16 8) (x.extractLsb' 8 8) (x.extractLsb' 0 8) = x := by
  rw [word32, BitVec.extractLsb'_append_extractLsb'_eq_extractLsb' (by rfl),
    BitVec.extractLsb'_append_extractLsb'_eq_extractLsb' (by rfl),
    BitVec.extractLsb'_append_extractLsb'_eq_extractLsb' (by rfl), BitVec.extractLsb'_eq_self]

/-! ### Bodies -/

/-- A part that is there exactly when it is declared is read back, and what follows it is left. -/
theorem takePart_encodePart {α : Type} {f : List Byte → Option α} {g : α → List Byte} {size : Nat}
    (hlength : ∀ x, (g x).length = size) (hdecode : ∀ x, f (g x) = some x) (x : Option α) (rest : List Byte) :
    takePart x.isSome size f (encodePart g x ++ rest) = some (x, rest) := by
  cases x with
  | none => rfl
  | some x =>
    have htake : (g x ++ rest).take size = g x := by rw [← hlength x, List.take_left]
    have hdrop : (g x ++ rest).drop size = rest := by rw [← hlength x, List.drop_left]
    have hlong : ¬(g x ++ rest).length < size := by rw [List.length_append, hlength]; omega
    simp only [takePart, encodePart, Option.isSome_some, if_true, if_neg hlong, htake, hdrop, hdecode, Option.map_some]

theorem decodeEcho_encodeEcho (e : Echo) : decodeEcho (encodeEcho e) = some e := by
  show some (⟨e.issuer, word16 (e.number.extractLsb' 8 8) (e.number.extractLsb' 0 8), e.kind⟩ : Echo) = _
  rw [word16_bytes16]

theorem decodeHoistPart_encodeHoistPart (h : HoistPart) : decodeHoistPart (encodeHoistPart h) = some h := by
  show some ({ height := word16 (h.height.extractLsb' 8 8) (h.height.extractLsb' 0 8),
               speed := word16 (h.speed.extractLsb' 8 8) (h.speed.extractLsb' 0 8),
               sat := (byteOfBits [h.sat, h.skewWarn]).getLsbD 0,
               skewWarn := (byteOfBits [h.sat, h.skewWarn]).getLsbD 1 } : HoistPart) = _
  rw [word16_bytes16, word16_bytes16, getLsbD_byteOfBits _ (by decide), getLsbD_byteOfBits _ (by decide)]
  rfl

theorem statusFlags_bit (b : StatusBody) {k : Nat} (hk : k < 8) : (statusFlags b).getLsbD k =
    [b.hand, b.handPending, b.halt.isSome, b.agreed, b.flashActive, b.hoist.isSome, b.zone.isSome,
      b.echo.isSome][k] := by
  rw [statusFlags, getLsbD_byteOfBits _ hk, List.getElem?_eq_getElem (by simpa using hk)]
  rfl

/-- The parts of a STATUS that its flags declare (R173). -/
def encodeParts (b : StatusBody) : List Byte :=
  encodePart encodeEcho b.echo ++ (encodePart (fun h => [h.origin, h.reason]) b.halt ++
    (encodePart encodeHoistPart b.hoist ++ encodePart (fun z => [z]) b.zone))

theorem encodeStatus_eq (b : StatusBody) : encodeStatus b =
    b.role :: statusFlags b :: b.phase :: b.lock :: (b.faults.setWidth 32).extractLsb' 24 8 ::
      (b.faults.setWidth 32).extractLsb' 16 8 :: (b.faults.setWidth 32).extractLsb' 8 8 ::
      (b.faults.setWidth 32).extractLsb' 0 8 :: b.proven :: b.stamp.extractLsb' 8 8 :: b.stamp.extractLsb' 0 8 ::
      encodeParts b := by
  simp [encodeStatus, encodeParts, bytes16, bytes32]

/-- A STATUS is read back part by part, as its flags declare them. -/
theorem decodeStatus_encodeStatus (b : StatusBody) : decodeStatus (encodeStatus b) = some b := by
  have hecho (rest : List Byte) := takePart_encodePart (size := 4) (fun _ => rfl) decodeEcho_encodeEcho b.echo rest
  have hhalt (rest : List Byte) := takePart_encodePart (f := decodeHaltPart) (g := fun h => [h.origin, h.reason])
    (size := 2) (fun _ => rfl) (fun _ => rfl) b.halt rest
  have hhoist (rest : List Byte) := takePart_encodePart (size := 5) (fun _ => rfl) decodeHoistPart_encodeHoistPart
    b.hoist rest
  have hzone := takePart_encodePart (f := decodeZone) (g := fun z => [z]) (size := 1) (fun _ => rfl)
    (fun _ => rfl) b.zone []
  rw [List.append_nil] at hzone
  rw [encodeStatus_eq, decodeStatus, encodeParts]
  simp only [statusFlags_bit b (k := 0) (by decide), statusFlags_bit b (k := 1) (by decide),
    statusFlags_bit b (k := 2) (by decide), statusFlags_bit b (k := 3) (by decide), statusFlags_bit b (k := 4) (by decide),
    statusFlags_bit b (k := 5) (by decide), statusFlags_bit b (k := 6) (by decide), statusFlags_bit b (k := 7) (by decide),
    List.getElem_cons_succ, List.getElem_cons_zero, hecho, hhalt, hhoist, hzone, Option.bind_some, word16_bytes16,
    word32_bytes32, List.isEmpty_nil, if_true]
  simp

theorem decodeBody_encodeBody {b : TelegramBody} (hrecord : ∀ bytes, b = .record bytes → bytes.length = recordLength bytes) :
    decodeBody (bodyKind b) (encodeBody b) = some b := by
  cases b with
  | halt mask reason =>
    show some (TelegramBody.halt (word32 _ _ _ _) reason) = _
    rw [word32_bytes32]
  | resume mask =>
    show some (TelegramBody.resume (word32 _ _ _ _)) = _
    rw [word32_bytes32]
  | demand kind number =>
    show some (TelegramBody.demand kind (word16 _ _)) = _
    rw [word16_bytes16]
  | status body =>
    show (decodeStatus (encodeStatus body)).map TelegramBody.status = _
    rw [decodeStatus_encodeStatus]
    rfl
  | query target => rfl
  | record bytes => exact if_pos (hrecord bytes rfl)

theorem encodePart_length_le {α : Type} {g : α → List Byte} {size : Nat} (hlength : ∀ x, (g x).length = size)
    (x : Option α) : (encodePart g x).length ≤ size := by
  cases x with
  | none => exact Nat.zero_le _
  | some x => exact (hlength x).le

theorem encodeBody_length {b : TelegramBody} (hrecord : ∀ bytes, b = .record bytes → bytes.length ≤ 255) :
    (encodeBody b).length ≤ 255 := by
  cases b with
  | halt | resume | demand | query => exact Nat.le_of_ble_eq_true rfl
  | status body =>
    have hecho := encodePart_length_le (g := encodeEcho) (size := 4) (fun _ => rfl) body.echo
    have hhalt := encodePart_length_le (g := fun h : HaltPart => [h.origin, h.reason]) (size := 2) (fun _ => rfl) body.halt
    have hhoist := encodePart_length_le (g := encodeHoistPart) (size := 5) (fun _ => rfl) body.hoist
    have hzone := encodePart_length_le (g := fun z : Byte => [z]) (size := 1) (fun _ => rfl) body.zone
    show (encodeStatus body).length ≤ 255
    simp only [encodeStatus, List.length_append, bytes16, bytes32, List.length_cons, List.length_nil]
    omega
  | record bytes => exact hrecord bytes rfl

/-! ### Whole telegrams -/

theorem kindClass_bodyKind (b : TelegramBody) : kindClass (bodyKind b) = some (bodyClass b) := by
  cases b <;> rfl

theorem decodeTelegram_encodeTelegram {t : Telegram} (low : 1 ≤ t.sender.toNat) (high : t.sender.toNat ≤ 31)
    (hrecord : ∀ bytes, t.body = .record bytes → bytes.length = recordLength bytes) :
    decodeTelegram (encodeTelegram t) = some t := by
  have hbody := decodeBody_encodeBody hrecord
  show (if t.sender.toNat == 0 || decide (31 < t.sender.toNat) || kindClass (bodyKind t.body) != some (bodyClass t.body)
    then none else (decodeBody (bodyKind t.body) (encodeBody t.body)).map
      fun b => ({ sender := t.sender, seq := t.seq, body := b } : Telegram)) = _
  rw [kindClass_bodyKind, hbody, if_neg]
  · rfl
  · simp
    omega

theorem judgeReception_frameTelegram {t : Telegram} (low : 1 ≤ t.sender.toNat) (high : t.sender.toNat ≤ 31)
    (hrecord : ∀ bytes, t.body = .record bytes → recordFits bytes = true) :
    judgeReception (frameTelegram t) = .valid t := by
  have hfits (bytes : List Byte) (h : t.body = .record bytes) : bytes.length = recordLength bytes ∧ bytes.length ≤ 255 := by
    simpa [recordFits] using hrecord bytes h
  have hshort := encodeBody_length fun bytes h => (hfits bytes h).2
  have hcheck : (bytes16 (crc (encodeTelegram t))).length = 2 := rfl
  have hlength : (frameTelegram t).length = (encodeTelegram t).length + 2 := by
    rw [frameTelegram, List.length_append, hcheck]
  have hencoded : (encodeTelegram t).length = 5 + (encodeBody t.body).length := by
    simp only [encodeTelegram, List.length_append, List.length_cons, List.length_nil]
  have hbefore : beforeCheck (frameTelegram t) = encodeTelegram t := by
    rw [beforeCheck, hlength, Nat.add_sub_cancel, frameTelegram, List.take_left]
  have hwhole : isWhole (frameTelegram t) = true := by
    have hdeclared : (frameTelegram t).getD 4 0 = byteOf (encodeBody t.body).length := rfl
    rw [isWhole, hdeclared, hlength, hencoded, byteOf, BitVec.toNat_ofNat, Bool.and_eq_true, decide_eq_true_eq, beq_iff_eq]
    omega
  have hpasses : checkPasses (frameTelegram t) = true := by
    rw [checkPasses, hbefore, hlength, Nat.add_sub_cancel, frameTelegram, List.drop_left, beq_self_eq_true]
  have hdecoded := decodeTelegram_encodeTelegram low high fun bytes h => (hfits bytes h).1
  unfold judgeReception
  rw [hwhole, hpasses, hbefore, hdecoded]
  rfl

/-- Settles O51: what is judged whole and of a passing check decodes to the telegram that was encoded. -/
theorem framedTelegramsAreReceived : Obligations.FramedTelegramsAreReceived := by
  intro own l tel low high other hrecord
  have hjudged := judgeReception_frameTelegram low high hrecord
  have hother : ¬(tel.sender.toNat == own) = true := by simpa using other
  unfold receptionCommand
  rw [hjudged]
  exact (if_neg (by decide)).trans (if_neg hother)

end Sys2Proof.Machine

/-!
PROOFS. The entry into RUN (O9): what it fills, the causes and the key it takes, and its first STATUS.
-/

namespace Sys2Proof.Machine

/-! ### What the entry fills -/

/-- The state with the field inputs, the peer table and the lamps filled, before the role's own blocks. -/
def State.filled (s : State) (ambient : Byte) : State :=
  (({ s with stage := .running, loader := {} } : State).takeInputs).fillPeers.freeLamps ambient

theorem State.entering_eq (s : State) (encoder : Option Word16) (ambient : Byte) :
    s.entering encoder ambient = (((s.filled ambient).startRole encoder).restartSilence .a).restartSilence .b := rfl

theorem State.filled_gi (s : State) (ambient : Byte) (i : Fin 16) :
    (s.filled ambient).gi i = s.inputs[i].candidate := by
  show (Vector.ofFn fun i : Fin 16 => ({ s.inputs[i] with level := s.inputs[i].candidate } : InputLine))[i].level = _
  simp

/-- The role's own blocks at the entry: the rebuilt journal, and a SIGNAL's recovery timer. -/
theorem State.startRole_parts (s : State) (encoder : Option Word16) :
    let t := s.startRole encoder
    t.seq = { journal := s.rebuiltJournal encoder } ∧ t.halt = s.halt ∧ t.zoneFlag = s.zoneFlag ∧
      t.level.sat = s.level.sat ∧ t.signal.recovering = s.signal.recovering ∧
      (s.role = .signal → t.signal.recoveryTimer = .running s.clock 5000) := by
  unfold State.startRole State.rebuild
  cases hrole : s.role <;> cases encoder <;> exact ⟨rfl, rfl, rfl, rfl, rfl, by simp [State.startTimer, Config.recoveryTime]⟩

theorem State.filled_parts (s : State) (ambient : Byte) :
    let t := s.filled ambient
    t.role = s.role ∧ t.clock = s.clock ∧ t.halt = s.halt ∧ t.level = s.level ∧ t.signal = s.signal :=
  ⟨rfl, rfl, rfl, rfl, rfl⟩

theorem State.restartSilence_parts (s : State) (l : Link) :
    let t := s.restartSilence l
    t.seq = s.seq ∧ t.halt = s.halt ∧ t.level = s.level ∧ t.signal = s.signal ∧ t.zoneFlag = s.zoneFlag ∧
      t.inputs = s.inputs ∧ t.cfg = s.cfg := by
  cases l <;> exact ⟨rfl, rfl, rfl, rfl, rfl, rfl, rfl⟩

theorem State.entering_same (s : State) (encoder : Option Word16) (ambient : Byte) :
    let q := s.entering encoder ambient
    let t := (s.filled ambient).startRole encoder
    q.seq = t.seq ∧ q.halt = t.halt ∧ q.level = t.level ∧ q.signal = t.signal ∧ q.zoneFlag = t.zoneFlag ∧
      q.inputs = t.inputs ∧ q.cfg = t.cfg := by
  intro q t
  obtain ⟨a1, a2, a3, a4, a5, a6, a7⟩ := t.restartSilence_parts .a
  obtain ⟨b1, b2, b3, b4, b5, b6, b7⟩ := (t.restartSilence .a).restartSilence_parts .b
  exact ⟨b1.trans a1, b2.trans a2, b3.trans a3, b4.trans a4, b5.trans a5, b6.trans a6, b7.trans a7⟩

theorem State.entering_parts (s : State) (encoder : Option Word16) (ambient : Byte) :
    let q := s.entering encoder ambient
    q.seq = { journal := (s.filled ambient).rebuiltJournal encoder } ∧ q.halt = s.halt ∧
      q.level.sat = s.level.sat ∧ q.signal.recovering = s.signal.recovering ∧
      (s.role = .signal → q.signal.recoveryTimer = .running s.clock 5000) := by
  intro q
  obtain ⟨hseq, hhalt, hlevel, hsignal, -⟩ := s.entering_same encoder ambient
  obtain ⟨rseq, rhalt, -, rsat, rrecovering, rtimer⟩ := (s.filled ambient).startRole_parts encoder
  obtain ⟨frole, fclock, fhalt, flevel, fsignal⟩ := s.filled_parts ambient
  refine ⟨hseq.trans rseq, (hhalt.trans rhalt).trans fhalt, ?_, ?_, fun role => ?_⟩
  · rw [hlevel, rsat, flevel]
  · rw [hsignal, rrecovering, fsignal]
  · rw [hsignal, rtimer (frole.trans role), fclock]

theorem State.entering_gi (s : State) (encoder : Option Word16) (ambient : Byte) (i : Fin 16) :
    (s.entering encoder ambient).gi i = s.inputs[i].candidate := by
  have hinputs := congrArg Still.inputs (s.entering_still encoder ambient)
  rw [State.gi, show (s.entering encoder ambient).inputs = _ from hinputs]
  simp

theorem State.takeInputs_zoneFlag (s : State) : s.takeInputs.zoneFlag = s.takeInputs.zoneOccupied := rfl

theorem State.zoneOccupied_congr {s t : State} (hinputs : t.inputs = s.inputs) (hcfg : t.cfg = s.cfg) :
    t.zoneOccupied = s.zoneOccupied := by
  simp only [State.zoneOccupied, State.detectorEnabled, State.gi, State.role, hinputs, hcfg]

theorem State.fillPeers_zone (s : State) : s.fillPeers.zoneFlag = s.zoneFlag ∧ s.fillPeers.zoneOccupied = s.zoneOccupied :=
  ⟨by simp only [State.fillPeers], State.zoneOccupied_congr (by simp only [State.fillPeers]) (by simp only [State.fillPeers])⟩

theorem State.freeLamps_zone (s : State) (ambient : Byte) :
    (s.freeLamps ambient).zoneFlag = s.zoneFlag ∧ (s.freeLamps ambient).zoneOccupied = s.zoneOccupied :=
  ⟨rfl, State.zoneOccupied_congr rfl rfl⟩

theorem State.filled_zoneFlag (s : State) (ambient : Byte) :
    (s.filled ambient).zoneFlag = (s.filled ambient).zoneOccupied := by
  rw [State.filled, (State.freeLamps_zone _ ambient).1, (State.freeLamps_zone _ ambient).2, (State.fillPeers_zone _).1,
    (State.fillPeers_zone _).2, State.takeInputs_zoneFlag]

/-- The zone occupancy flag is taken at the entry (R70). -/
theorem State.entering_zoneFlag (s : State) (encoder : Option Word16) (ambient : Byte) :
    (s.entering encoder ambient).zoneFlag = (s.entering encoder ambient).zoneOccupied := by
  obtain ⟨-, -, -, -, hzone, -⟩ := s.entering_same encoder ambient
  obtain ⟨-, -, rzone, -⟩ := (s.filled ambient).startRole_parts encoder
  have hcfg : (s.entering encoder ambient).cfg = (s.filled ambient).cfg :=
    congrArg Still.cfg (s.entering_still encoder ambient)
  rw [hzone, rzone, s.filled_zoneFlag]
  simp only [State.zoneOccupied, State.detectorEnabled, State.role, hcfg, s.filled_gi, s.entering_gi]

/-! ### The causes and the key it takes -/

/-- A cause at a station between steps leaves the sequencer as it is. -/
theorem State.raiseCause_seq_of_idle {s : State} (hstep : s.seq.step = none) (c : LocalCause) :
    (s.raiseCause c).seq = s.seq := by
  rcases s.raiseCause_cases c with ⟨-, h⟩ | ⟨-, h⟩ <;> rw [h]
  rw [State.formHalt_seq]
  unfold State.addOrigin
  split
  · rfl
  · simp [State.stopMotion, State.interruptStep, hstep]

theorem State.stopped.raiseCause {s : State} (h : s.stopped) (known : s.own < 32) (c : LocalCause) :
    (s.raiseCause c).stopped := by
  obtain ⟨halted, hstep, hmove, hzero⟩ := h
  refine ⟨?_, by rw [State.raiseCause_seq_of_idle hstep, hstep], State.raiseCause_move c hmove,
    (s.raiseCause_carries c).reference hzero⟩
  rw [State.halted, State.raiseCause_halt, HaltRecord.raise]
  split
  · exact halted
  · rw [HaltRecord.addOrigin_origins]
    simpa using maskAdd_ne_zero _ known

/-- What the causes at the entry leave of the station they find between steps. -/
structure State.Raised (q p : State) : Prop where
  still : p.still = q.still
  seq : p.seq = q.seq
  unmoved : p.unmoved = q.unmoved
  sat : p.level.sat = q.level.sat
  handState : p.hand.state = q.hand.state
  move : q.hand.move = none → p.hand.move = none

theorem State.raiseCauses_raised {q : State} (hstep : q.seq.step = none) (cs : List LocalCause) :
    q.Raised (q.raiseCauses cs) :=
  State.raiseCauses_keeps (P := fun p => q.Raised p) cs (fun p h => ⟨h.still, h.seq, h.unmoved, h.sat, h.handState, h.move⟩)
    (fun p c _ h => by
      have hcarries := p.raiseCause_carries c
      have hsat : (p.raiseCause c).level.sat = p.level.sat := by
        rcases p.raiseCause_level_keptOrStopped c with h | h <;> rw [h]
      exact ⟨(p.raiseCause_still c).trans h.still, (State.raiseCause_seq_of_idle (by rw [h.seq, hstep]) c).trans h.seq,
        (p.raiseCause_unmoved c).trans h.unmoved, hsat.trans h.sat, (p.raiseCause_handState c).trans h.handState,
        hcarries.move ∘ h.move⟩)
    q ⟨rfl, rfl, rfl, rfl, rfl, id⟩

/-- An active key gives HAND at a station between steps, and touches nothing else of it (R123). -/
theorem State.startKey_parts {p : State} {journal : List JournalEntry} (hseq : p.seq = { journal := journal }) :
    p.startKey.seq = p.seq ∧ p.startKey.halt = p.halt ∧ p.startKey.level = p.level ∧ p.startKey.unmoved = p.unmoved ∧
      p.startKey.hand = { p.hand with state :=
        if p.role.hasHandPanel = true ∧ p.handKey = true ∧ p.hand.state = .off then .hand else p.hand.state } := by
  have hentered : p.enterHand.seq = p.seq ∧ p.enterHand.halt = p.halt ∧ p.enterHand.level = p.level ∧
      p.enterHand.hand = { p.hand with state := .hand } := by
    unfold State.enterHand State.discardInterrupted
    rw [hseq]
    exact ⟨rfl, rfl, rfl, rfl⟩
  obtain ⟨hseq', hhalt, hlevel, hhand⟩ := hentered
  by_cases hkey : p.role.hasHandPanel = true ∧ p.handKey = true ∧ p.hand.state = .off
  · have hstart : p.startKey = p.enterHand := by
      obtain ⟨panel, key, off⟩ := hkey
      rw [State.startKey, panel, key, if_pos (by decide), State.keyActive_of_free off (.inl (by rw [hseq]))]
    rw [hstart, hhand, if_pos hkey]
    exact ⟨hseq', hhalt, hlevel, p.enterHand_unmoved, rfl⟩
  · have hstart : p.startKey = p := by
      simp only [State.startKey, State.keyActive, Bool.and_eq_true, beq_iff_eq, ite_eq_right_iff]
      exact fun h hoff => absurd ⟨h.1, h.2, hoff⟩ hkey
    rw [hstart, if_neg hkey]
    exact ⟨rfl, rfl, rfl, rfl, rfl⟩

/-- The station from which the reactions at the entry go on. -/
theorem State.entered_parts (s : State) (encoder : Option Word16) (ambient : Byte) :
    let q := s.entering encoder ambient
    let p := q.raiseCauses (q.startCauses encoder)
    let x := s.entered encoder ambient
    q.Raised p ∧ x.still = q.still ∧ x.seq = { journal := (s.filled ambient).rebuiltJournal encoder } ∧ x.halt = p.halt ∧
      x.level = p.level ∧ x.unmoved = q.unmoved ∧ x.mail = p.mail ∧ x.hand = { p.hand with state :=
        if s.role.hasHandPanel = true ∧ s.inputs[1].candidate = true ∧ s.hand.state = .off then .hand else s.hand.state } := by
  intro q p x
  have hq : q.seq = { journal := (s.filled ambient).rebuiltJournal encoder } := (s.entering_parts encoder ambient).1
  have hraised : q.Raised p := State.raiseCauses_raised (by rw [hq]) _
  obtain ⟨hseq, hhalt, hlevel, hunmoved, hhand⟩ := State.startKey_parts (p := p) (hraised.seq.trans hq)
  have hkey : p.handKey = s.inputs[1].candidate :=
    (State.gi_of_still hraised.still 1).trans (s.entering_gi encoder ambient 1)
  have hrole : p.role = s.role := (State.role_of_still hraised.still).trans
    (congrArg (fun x : Still => x.cfg.role) (s.entering_still encoder ambient))
  have hstate : p.hand.state = s.hand.state := hraised.handState.trans (by rw [s.entering_hand])
  rw [hkey, hrole, hstate] at hhand
  exact ⟨hraised, (State.startKey_still p).trans hraised.still, hseq.trans (hraised.seq.trans hq), hhalt, hlevel,
    hunmoved.trans hraised.unmoved, State.startKey_mail p, hhand⟩

/-! ### What the reactions at the entry leave -/

/-- The entry leaves the station as the sequencer's work and the hand move's end leave it. -/
theorem State.enterRun_core (s : State) (encoder : Option Word16) (ambient : Byte) :
    (s.enterRun encoder ambient).core = ((s.entered encoder ambient).worked false).core := by
  rw [State.enterRun_eq, State.formStatus_core, State.react_worked, State.followLamps_core]

theorem State.worked_carries (held : Bool) (x : State) : x.Carries (x.worked held) :=
  (State.sequenced_carries held x).trans (State.followHandMove_carries _)

/-- With an entry of a BARRIER or HOIST not TRACKED, recovery does not end (R68). -/
theorem State.prepared_signal_of_untracked {x : State} {i : Fin 16} (present : x.peers[i].state ≠ .vacant)
    (untracked : x.peers[i].state ≠ .tracked) (role : x.peers[i].role = .barrier ∨ x.peers[i].role = .hoist) :
    x.prepared.signal = x.signal := by
  have hstill := x.followed_still
  have hpeers : x.followed.peers = x.peers := congrArg Still.peers hstill
  have hmem : x.peers[i] ∈ x.followed.entriesOf x.peers[i].role :=
    State.mem_entriesOf_iff.mpr ⟨i, by rw [hpeers], by rw [hpeers]; exact present, by rw [hpeers]⟩
  have hstays : ¬(x.followed.inRecovery && (x.followed.entriesOf .barrier).all (·.state == .tracked) &&
      (x.followed.entriesOf .hoist).all (·.state == .tracked)) = true := by
    intro h
    simp only [Bool.and_eq_true, List.all_eq_true, beq_iff_eq] at h
    obtain ⟨⟨-, hbarriers⟩, hhoists⟩ := h
    rcases role with role | role <;> rw [role] at hmem
    · exact untracked (hbarriers _ hmem)
    · exact untracked (hhoists _ hmem)
  rw [State.prepared_eq, State.followRecovery, if_neg hstays]
  exact congrArg Prod.snd x.followed_track

/-- After the entry no hand request waits: one that waited is granted, for no step is in progress (R123). -/
theorem State.settle_unpending {s : State} (hstep : s.seq.step = none) : s.settle.hand.state ≠ .pending := by
  have hgranted : s.grantHand.hand.state ≠ .pending := by
    unfold State.grantHand
    split
    · rw [State.enterHand_state]
      decide
    next h => exact fun hpending => h (by simp [hpending, hstep])
  unfold State.settle
  dsimp only
  split <;> exact hgranted

theorem State.worked_unpending {x : State} (hstep : x.seq.step = none) (held : Bool) :
    (x.worked held).hand.state ≠ .pending := by
  have hsettled := State.settle_unpending (s := x.prepared) (x.prepared_step.trans hstep)
  have hsequenced : (x.sequenced held).hand.state ≠ .pending := by
    rw [State.sequenced_eq, advanceBound, State.advance]
    split
    next h =>
      refine State.advance_keeps (P := fun t => t.hand.state ≠ .pending) (fun t ht => ?_) (fun t b r ht hm => ?_) _ _ _ ?_
      · rw [t.settle_carries.handState ht]
        exact ht
      · rw [(State.nextMove_carries hm).handState ht]
        exact ht
      · rw [(State.nextMove_carries h).handState hsettled]
        exact hsettled
    next => exact hsettled
  rw [State.worked, State.followHandMove_handState]
  exact hsequenced

/-- Without a demand no reaction at a station between steps halts it. -/
theorem State.worked_halt_of_undecided {x : State} (hstep : x.seq.step = none) (undecided : x.demand.adopted = none)
    (held : Bool) : (x.worked held).halt = x.halt := by
  rw [State.worked, State.followHandMove_halt]
  by_cases role : x.role = .signal
  · exact (State.calm.sequenced held (.inl (by rw [role]; decide))).1
  · rw [State.sequenced_of_undecided role hstep undecided, State.settle_halt, State.prepared_halt]

/-- Without a demand a station without aspects keeps its accumulator's saturation. -/
theorem State.worked_sat_of_undecided {x : State} (role : x.role ≠ .signal) (hstep : x.seq.step = none)
    (undecided : x.demand.adopted = none) (held : Bool) : (x.worked held).level.sat = x.level.sat := by
  have hsettled : x.prepared.settle.level.sat = x.level.sat := by rw [State.settle_level, State.prepared_level]
  rw [State.worked, State.sequenced_of_undecided role hstep undecided, ← hsettled]
  unfold State.followHandMove State.endHandMove
  split
  · split <;> rfl
  · rfl

/-! ### The clauses of the entry -/

theorem State.parts_of_core {s t : State} (h : t.core = s.core) : t.seq = s.seq ∧ t.signal = s.signal ∧
    t.level = s.level ∧ t.halt = s.halt ∧ t.hand = s.hand ∧ t.demand = s.demand :=
  ⟨congrArg Core.seq h, congrArg Core.signal h, congrArg Core.level h, congrArg Core.halt h, congrArg Core.hand h,
    congrArg Core.demand h⟩

theorem State.parts_of_unmoved {s t : State} (h : t.unmoved = s.unmoved) : t.zoneFlag = s.zoneFlag ∧
    t.signal.recovering = s.signal.recovering ∧ t.signal.recoveryTimer = s.signal.recoveryTimer :=
  ⟨congrArg Unmoved.zoneFlag h, congrArg Unmoved.recovering h, congrArg Unmoved.recoveryTimer h⟩

theorem State.entering_fixed (s : State) (encoder : Option Word16) (ambient : Byte) :
    let q := s.entering encoder ambient
    q.cfg = s.cfg ∧ q.clock = s.clock ∧ q.demand.adopted = s.demand.adopted ∧ q.isRunning = true ∧
      q.peers = Vector.ofFn fun i : Fin 16 => s.cfg.peers[i].entry := by
  intro q
  have h : q.still = _ := s.entering_still encoder ambient
  have hrunning : q.stage = .running := by simpa only [State.still] using congrArg Still.stage h
  refine ⟨?_, ?_, ?_, State.isRunning_eq_true_iff.mpr hrunning, ?_⟩
  · simpa only [State.still] using congrArg Still.cfg h
  · simpa only [State.still] using congrArg Still.clock h
  · simpa only [State.still] using congrArg Still.adopted h
  · simpa only [State.still] using congrArg Still.peers h

theorem State.entered_fixed (s : State) (encoder : Option Word16) (ambient : Byte) :
    let x := s.entered encoder ambient
    x.role = s.role ∧ x.cfg = s.cfg ∧ x.demand.adopted = s.demand.adopted ∧
      x.peers = Vector.ofFn fun i : Fin 16 => s.cfg.peers[i].entry := by
  intro x
  obtain ⟨hcfg, -, hadopted, -, hpeers⟩ := s.entering_fixed encoder ambient
  obtain ⟨-, hstill, -⟩ := s.entered_parts encoder ambient
  have hcfg' : x.cfg = s.cfg := (State.cfg_of_still hstill).trans hcfg
  exact ⟨by rw [State.role, hcfg', State.role], hcfg', (State.adopted_of_still hstill).trans hadopted,
    (show x.peers = _ from congrArg Still.peers hstill).trans hpeers⟩

/-- The journal of a BARRIER or HOIST is the rebuilt one (R47, R48). -/
theorem State.enterRun_journal {s : State} (role : s.role ≠ .signal) (undecided : s.demand.adopted = none)
    (encoder : Option Word16) (ambient : Byte) :
    (s.enterRun encoder ambient).seq.step = none ∧
      (s.enterRun encoder ambient).seq.journal = (s.filled ambient).rebuiltJournal encoder := by
  obtain ⟨-, -, hseq, -⟩ := s.entered_parts encoder ambient
  obtain ⟨hrole, -, hadopted, -⟩ := s.entered_fixed encoder ambient
  obtain ⟨hcore, -⟩ := State.parts_of_core (s.enterRun_core encoder ambient)
  have hworked := State.worked_of_undecided (x := s.entered encoder ambient) (by rw [hrole]; exact role)
    (by rw [hseq]) (hadopted.trans undecided) false
  rw [hseq] at hworked
  rw [hcore]
  exact hworked

theorem barrierJournal_eq (now : Time) (up down locked : Bool) : barrierJournal now up down locked =
    if up = true ∧ down = false then []
    else if down = true ∧ up = false then
      [{ step := .lock, state := if locked then .done else .partway, start := now },
        { step := .lower, state := .done, start := now }]
    else [{ step := .lower, state := .partway, start := now }] := by
  cases up <;> cases down <;> rfl

theorem PeerConfig.entry_of_station {c : PeerConfig} (present : c.station ≠ 0) :
    c.entry.state = .unknown ∧ c.entry.role = c.role := by
  simp [PeerConfig.entry, present]

/-- A SIGNAL in recovery with an entry of a BARRIER or HOIST stays in it (R61). -/
theorem State.enterRun_recovers {s : State} (role : s.role = .signal) (recovering : s.signal.recovering = true)
    (encoder : Option Word16) (ambient : Byte) {i : Fin 16} (present : s.cfg.peers[i].station ≠ 0)
    (moving : s.cfg.peers[i].role = .barrier ∨ s.cfg.peers[i].role = .hoist) :
    (s.enterRun encoder ambient).signal.recovering = true ∧
      (s.enterRun encoder ambient).signal.recoveryTimer = .running s.clock 5000 := by
  obtain ⟨-, -, -, -, -, hunmoved, -⟩ := s.entered_parts encoder ambient
  obtain ⟨-, -, -, hpeers⟩ := s.entered_fixed encoder ambient
  obtain ⟨-, -, -, hrecovering, htimer⟩ := s.entering_parts encoder ambient
  obtain ⟨-, hcore, -⟩ := State.parts_of_core (s.enterRun_core encoder ambient)
  have hentry : (s.entered encoder ambient).peers[i] = s.cfg.peers[i].entry := by
    rw [hpeers]
    simp
  obtain ⟨hstate, hrole⟩ := PeerConfig.entry_of_station present
  have hsignal := State.prepared_signal_of_untracked (x := s.entered encoder ambient) (i := i)
    (by rw [hentry, hstate]; decide) (by rw [hentry, hstate]; decide) (by rw [hentry, hrole]; exact moving)
  obtain ⟨-, hx, hxtimer⟩ := State.parts_of_unmoved hunmoved
  obtain ⟨-, hw, hwtimer⟩ := State.parts_of_unmoved (State.worked_unmoved false (s.entered encoder ambient))
  rw [hcore, hw, hwtimer, hsignal, hx, hxtimer]
  exact ⟨hrecovering.trans recovering, htimer role⟩

theorem HandPanel.eq_of_parts {h : HandPanel} {state : HandState} (hstate : h.state = state) (hmove : h.move = none) :
    h = { state := state } := by
  obtain ⟨_, _⟩ := h
  cases hstate
  cases hmove
  rfl

/-- The key alone gives the hand state at the entry (R123). -/
theorem State.enterRun_hand {s : State} (off : s.hand = {}) (encoder : Option Word16) (ambient : Byte) :
    (s.enterRun encoder ambient).hand =
      { state := if s.role.hasHandPanel = true ∧ s.inputs[1].candidate = true then .hand else .off } := by
  obtain ⟨hraised, -, -, -, -, -, -, hhand⟩ := s.entered_parts encoder ambient
  obtain ⟨-, -, -, -, hcore, -⟩ := State.parts_of_core (s.enterRun_core encoder ambient)
  have hcarries := State.worked_carries false (s.entered encoder ambient)
  have hmove := hraised.move (by rw [s.entering_hand, off])
  have hstate : (s.entered encoder ambient).hand.state =
      if s.role.hasHandPanel = true ∧ s.inputs[1].candidate = true then .hand else .off := by
    rw [hhand, off]
    simp
  have hunpending : (s.entered encoder ambient).hand.state ≠ .pending := by
    rw [hstate]
    split <;> decide
  rw [hcore]
  exact HandPanel.eq_of_parts ((hcarries.handState hunpending).trans hstate) (hcarries.move (by rw [hhand]; exact hmove))

/-! ### The causes found at the entry -/

/-- What a station halted at the entry is at the end of it. -/
theorem State.enterRun_of_stopped {s : State} {encoder : Option Word16} {ambient : Byte}
    (h : (s.entered encoder ambient).stopped) :
    (s.enterRun encoder ambient).halt = (s.entered encoder ambient).halt ∧
      (s.enterRun encoder ambient).atRest = true ∧
      (s.entered encoder ambient).Filled [.status] (s.enterRun encoder ambient) := by
  have hworked := State.worked_of_halted h false
  obtain ⟨halted, -, -, hzero⟩ := h
  obtain ⟨-, -, hlevel, hhalt, -⟩ := State.parts_of_core (s.enterRun_core encoder ambient)
  have hreact := State.react_worked false (s.entered encoder ambient)
  rw [hworked] at hlevel hhalt hreact
  rw [State.settle_level, State.prepared_level] at hlevel
  rw [State.settle_halt, State.prepared_halt] at hhalt
  have hmail : ((s.entered encoder ambient).react false).mail = (s.entered encoder ambient).mail := by
    have hlamps (w : State) : w.followLamps.mail = w.mail := rfl
    rw [hreact, hlamps, State.settle_mail, State.prepared_mail]
  refine ⟨hhalt, State.atRest_of_halted ?_ (by rw [hlevel, hzero]), ?_⟩
  · rw [State.halted, hhalt]
    exact halted
  · rw [State.enterRun_eq]
    exact (State.Filled.of_mail hmail).trans (State.formStatus_filled _)

theorem State.entered_stopped {s : State} {encoder : Option Word16} {ambient : Byte}
    (h : ((s.entering encoder ambient).raiseCauses ((s.entering encoder ambient).startCauses encoder)).stopped) :
    (s.entered encoder ambient).stopped := by
  obtain ⟨-, -, hseq, hhalt, hlevel, -, -, hhand⟩ := s.entered_parts encoder ambient
  obtain ⟨halted, -, hmove, hzero⟩ := h
  refine ⟨?_, by rw [hseq], by rw [hhand]; exact hmove, by rw [hlevel]; exact hzero⟩
  rw [State.halted, hhalt]
  exact halted

theorem HaltRecord.has_empty (c : LocalCause) : ({} : HaltRecord).has c = false := by
  cases c <;> decide

/-- The own number joins an origin set it is alone in. -/
theorem HaltRecord.raise_second {h : HaltRecord} {n : Nat} {c : LocalCause} (known : n < 32)
    (alone : h.origins = BitVec.twoPow 32 n) (habsent : h.has c = false) : h.raise n c = h.put c := by
  have hset : (h.put c).origins = BitVec.twoPow 32 n := (h.put_origins c).trans alone
  have hnonzero : ((h.put c).origins != 0) = true := by
    rw [hset]
    simpa [maskAdd] using maskAdd_ne_zero 0 known
  have hsame : maskAdd (h.put c).origins n = (h.put c).origins := by rw [maskAdd, hset, BitVec.or_self]
  rw [HaltRecord.raise, habsent, if_neg (by decide), HaltRecord.addOrigin, if_pos hnonzero, hsame]

theorem State.entering_mail (s : State) (encoder : Option Word16) (ambient : Byte) :
    let q := s.entering encoder ambient
    q.linkA.haltcmd = s.linkA.haltcmd ∧ q.linkB.haltcmd = s.linkB.haltcmd ∧ q.former = s.former := by
  have hrole := State.startRole_mail (s.filled ambient) encoder
  have hfilled : (s.filled ambient).mail = s.mail := rfl
  have hmail := hrole.trans hfilled
  have hsilence (u : State) : ((u.restartSilence .a).restartSilence .b).linkA.haltcmd = u.linkA.haltcmd ∧
      ((u.restartSilence .a).restartSilence .b).linkB.haltcmd = u.linkB.haltcmd ∧
      ((u.restartSilence .a).restartSilence .b).former = u.former := ⟨rfl, rfl, rfl⟩
  obtain ⟨ha, hb, hformer⟩ := hsilence ((s.filled ambient).startRole encoder)
  rw [s.entering_eq]
  exact ⟨ha.trans (congrArg (·.linkA.haltcmd) hmail), hb.trans (congrArg (·.linkB.haltcmd) hmail),
    hformer.trans (congrArg (·.former) hmail)⟩

theorem State.startCauses_eq (s : State) (encoder : Option Word16) (ambient : Byte) :
    (s.entering encoder ambient).startCauses encoder =
      (if s.inputs[0].candidate = true then [.estop] else []) ++
        (if s.role = .hoist ∧ encoder = none then [.encoder] else []) := by
  obtain ⟨hcfg, -⟩ := s.entering_fixed encoder ambient
  have hrole : (s.entering encoder ambient).role = s.role := by rw [State.role, hcfg, State.role]
  rw [State.startCauses, State.estopInput, s.entering_gi, hrole]
  simp

/-- The entry at a station that one cause halts (R113, R114). -/
theorem State.enterRun_of_cause {s : State} {encoder : Option Word16} {ambient : Byte} {c : LocalCause}
    (hhalt : s.halt = {}) (known : s.own < 32)
    (hcauses : (s.entering encoder ambient).startCauses encoder = [c]) :
    (s.enterRun encoder ambient).halt = { ({} : HaltRecord).put c with
        origins := BitVec.twoPow 32 s.own, firstOrigin := some s.own, firstReason := some (.cause c) } ∧
      (s.enterRun encoder ambient).atRest = true ∧
      (s.cfg.haltMask ≠ 0 → s.noHaltWaiting → (s.enterRun encoder ambient).placed .haltcmd
        { sender := byteOf s.own, seq := s.former.sequence, body := .halt s.cfg.haltMask (HaltReason.cause c).code }) := by
  obtain ⟨-, -, -, hx, -, -, hmail, -⟩ := s.entered_parts encoder ambient
  obtain ⟨-, hq, -⟩ := s.entering_parts encoder ambient
  obtain ⟨hcfg, -⟩ := s.entering_fixed encoder ambient
  obtain ⟨ha, hb, hformer⟩ := s.entering_mail encoder ambient
  have hown : (s.entering encoder ambient).own = s.own := by rw [State.own, hcfg, State.own]
  rw [hhalt] at hq
  have habsent : (s.entering encoder ambient).halt.has c = false := by rw [hq, HaltRecord.has_empty]
  obtain ⟨hraised, hstopped, -⟩ := State.raiseCause_of_free (s := s.entering encoder ambient)
    (by rw [State.halted, hq]; rfl) habsent (by rw [hown]; exact known)
  have hstopped' := State.entered_stopped (s := s) (encoder := encoder) (ambient := ambient) (by rw [hcauses]; exact hstopped)
  obtain ⟨hhalt', hrest, hfilled⟩ := State.enterRun_of_stopped hstopped'
  rw [hcauses] at hx hmail
  refine ⟨?_, hrest, fun mask free => ?_⟩
  · rw [hhalt', hx]
    exact hraised.trans (by rw [hq, hown])
  · have hplaced := State.raiseCause_placed habsent (by rwa [hcfg]) (by rw [State.noHaltWaiting, ha, hb]; exact free)
    rw [hown, hformer, hcfg] at hplaced
    exact hfilled.placed (by decide) ((State.Filled.of_mail (kinds := []) hmail).placed (by decide) hplaced)

/-- The entry at a station that no cause halts. -/
theorem State.enterRun_of_no_cause {s : State} {encoder : Option Word16} {ambient : Byte}
    (undecided : s.demand.adopted = none) (hcauses : (s.entering encoder ambient).startCauses encoder = []) :
    (s.enterRun encoder ambient).halt = s.halt := by
  obtain ⟨-, -, hseq, hx, -⟩ := s.entered_parts encoder ambient
  obtain ⟨-, hq, -⟩ := s.entering_parts encoder ambient
  obtain ⟨-, -, hadopted, -⟩ := s.entered_fixed encoder ambient
  obtain ⟨-, -, -, hcore, -⟩ := State.parts_of_core (s.enterRun_core encoder ambient)
  rw [hcauses] at hx
  rw [hcore, State.worked_halt_of_undecided (by rw [hseq]) (hadopted.trans undecided), hx]
  exact hq

/-- A second cause at a station that a first one halted at the same event (R113, R114). -/
theorem State.raiseCause_twice {u : State} {a b : LocalCause} (hhalt : u.halt = {}) (known : u.own < 32)
    (hdifferent : (({} : HaltRecord).put a).has b = false) :
    ((u.raiseCause a).raiseCause b).stopped ∧ ((u.raiseCause a).raiseCause b).halt =
      { (({} : HaltRecord).put a).put b with
        origins := BitVec.twoPow 32 u.own, firstOrigin := some u.own, firstReason := some (.cause a) } := by
  obtain ⟨hraised, hstopped, -⟩ := State.raiseCause_of_free (s := u) (by rw [State.halted, hhalt]; rfl)
    (c := a) (by rw [hhalt, HaltRecord.has_empty]) known
  have hown : (u.raiseCause a).own = u.own := State.own_of_still (u.raiseCause_still a)
  have hput : ({ ({} : HaltRecord).put a with
      origins := BitVec.twoPow 32 u.own, firstOrigin := some u.own, firstReason := some (.cause a) } : HaltRecord).put b =
    { (({} : HaltRecord).put a).put b with
      origins := BitVec.twoPow 32 u.own, firstOrigin := some u.own, firstReason := some (.cause a) } := by
    cases b <;> rfl
  rw [hhalt] at hraised
  refine ⟨hstopped.raiseCause (by rwa [hown]) b, ?_⟩
  have hsecond := HaltRecord.raise_second (h := { ({} : HaltRecord).put a with
    origins := BitVec.twoPow 32 u.own, firstOrigin := some u.own, firstReason := some (.cause a) }) known rfl hdifferent
  rw [State.raiseCause_halt, hown, hraised]
  exact hsecond.trans hput

/-- The entry of a hoist with an active ESTOP and an invalid reading: the free choice gives the first reason (R114). -/
theorem State.enterRun_of_two_causes {s : State} {encoder : Option Word16} {ambient : Byte}
    (hhalt : s.halt = {}) (known : s.own < 32)
    (hcauses : (s.entering encoder ambient).startCauses encoder = [.estop, .encoder]) :
    (s.enterRun encoder ambient).atRest = true ∧ ∃ c : LocalCause, (c = .estop ∨ c = .encoder) ∧
      (s.enterRun encoder ambient).halt =
        { live := causeAdd 0 .estop, latched := causeAdd 0 .encoder, origins := BitVec.twoPow 32 s.own,
          firstOrigin := some s.own, firstReason := some (.cause c) } := by
  obtain ⟨-, -, -, hx, -⟩ := s.entered_parts encoder ambient
  obtain ⟨-, hq, -⟩ := s.entering_parts encoder ambient
  obtain ⟨hcfg, -⟩ := s.entering_fixed encoder ambient
  have hown : (s.entering encoder ambient).own = s.own := by rw [State.own, hcfg, State.own]
  have hstopped := State.entered_stopped (s := s) (encoder := encoder) (ambient := ambient)
  rw [hcauses] at hx hstopped
  generalize s.entering encoder ambient = q at *
  have hraised : (q.raiseCauses [.estop, .encoder]).stopped ∧ ∃ c : LocalCause, (c = .estop ∨ c = .encoder) ∧
      (q.raiseCauses [.estop, .encoder]).halt =
        { live := causeAdd 0 .estop, latched := causeAdd 0 .encoder, origins := BitVec.twoPow 32 s.own,
          firstOrigin := some s.own, firstReason := some (.cause c) } := by
    have hdrawn : q.draw.2.halt = {} := hq.trans hhalt
    have hdrawnOwn : q.draw.2.own = s.own := hown
    cases hfirst : q.draw.1 with
    | false =>
      have horder : q.raiseCauses [.estop, .encoder] = (q.draw.2.raiseCause .estop).raiseCause .encoder := by
        simp [State.raiseCauses, hfirst]
      obtain ⟨hstopped, hrecord⟩ := State.raiseCause_twice (u := q.draw.2) (a := .estop) (b := .encoder) hdrawn
        (by rw [hdrawnOwn]; exact known) (by decide)
      rw [horder]
      exact ⟨hstopped, _, .inl rfl, hrecord.trans (by rw [hdrawnOwn]; rfl)⟩
    | true =>
      have horder : q.raiseCauses [.estop, .encoder] = (q.draw.2.raiseCause .encoder).raiseCause .estop := by
        simp [State.raiseCauses, hfirst]
      obtain ⟨hstopped, hrecord⟩ := State.raiseCause_twice (u := q.draw.2) (a := .encoder) (b := .estop) hdrawn
        (by rw [hdrawnOwn]; exact known) (by decide)
      rw [horder]
      exact ⟨hstopped, _, .inr rfl, hrecord.trans (by rw [hdrawnOwn]; rfl)⟩
  obtain ⟨hrest, c, hc, hrecord⟩ := hraised
  obtain ⟨hhalt', hatRest, -⟩ := State.enterRun_of_stopped (hstopped hrest)
  exact ⟨hatRest, c, hc, by rw [hhalt', hx, hrecord]⟩

/-! ### The first STATUS -/

theorem State.formStatus_phase (s : State) : s.formStatus.phase = s.phase := by
  unfold State.formStatus
  split <;> rfl

theorem State.formStatus_hasFault (s : State) (f : FaultName) : s.formStatus.hasFault f = s.hasFault f := by
  have hstill := s.formStatus_still
  cases f
  case linkA =>
    rw [State.hasFault, State.hasFault, show s.formStatus.linkA.state = s.linkA.state from
      congrArg (fun x : Still => x.linkA.state) hstill]
  case linkB =>
    rw [State.hasFault, State.hasFault, show s.formStatus.linkB.state = s.linkB.state from
      congrArg (fun x : Still => x.linkB.state) hstill]
  all_goals
    unfold State.formStatus
    split <;> rfl

/-- A STATUS formed where the zone occupancy flag says what the detectors say leaves every field it carries. -/
theorem State.formStatus_statusBody {s : State} (linked : s.bothFailed = false) (zone : s.zoneFlag = s.zoneOccupied) :
    s.formStatus.statusBody = s.statusBody := by
  have hstill := s.formStatus_still
  obtain ⟨-, -, -, -, hzone, -, hseq, hdemand, hhalt, hhand, hlamps, hlevel⟩ := State.formStatus_formed linked
  have hrole := State.role_of_still hstill
  have hcfg := State.cfg_of_still hstill
  have hfaults : s.formStatus.faultSet = s.faultSet := by
    rw [State.faultSet, State.faultSet, funext s.formStatus_hasFault]
  have hflash : s.formStatus.flashActive = s.flashActive := by
    simp only [State.flashActive, State.isRunning_of_still hstill, State.bothFailed_of_still hstill, hcfg,
      s.formStatus_functionCommand]
  have hproven (f : LampFunction) := State.functionProven_congr hcfg (congrArg Lamps.outputs hlamps) f
  have hprovenSet : s.formStatus.provenSet = s.provenSet := by
    simp only [State.provenSet, State.roadRedProven, hproven]
  have hreport : s.formStatus.zoneReport = s.zoneReport := by
    rw [State.zoneReport, State.zoneReport, State.detectorsFaulted_of_still hstill, hzone, zone]
  rw [State.statusBody, State.statusBody, State.inHand, State.inHand, State.halted, State.halted, State.hoistPart,
    State.hoistPart, hrole, hhand, State.permissive_congr (p := .agreed) hstill nofun, hflash, s.formStatus_phase,
    hlamps, hfaults, hprovenSet, hdemand, hhalt, hlevel, State.hasDetectors_of_still hstill, hreport]

/-- The zone occupancy flag still says what the detectors say when the first STATUS is formed. -/
theorem State.reacted_zoneFlag (s : State) (encoder : Option Word16) (ambient : Byte) :
    ((s.entered encoder ambient).react false).zoneFlag = ((s.entered encoder ambient).react false).zoneOccupied := by
  obtain ⟨-, hstill, -, -, -, hunmoved, -⟩ := s.entered_parts encoder ambient
  have hzone := s.entering_zoneFlag encoder ambient
  obtain ⟨hx, -⟩ := State.parts_of_unmoved hunmoved
  generalize s.entered encoder ambient = x at *
  obtain ⟨hw, -⟩ := State.parts_of_unmoved (State.worked_unmoved false x)
  have hlamps (w : State) : w.followLamps.zoneFlag = w.zoneFlag := rfl
  rw [State.zoneOccupied_of_still ((State.react_still false x).trans hstill), ← hzone, ← hx, ← x.prepared_zoneFlag, ← hw,
    State.react_worked, hlamps]

theorem Output.followDriven_proof (c : StationConfig) (was : Bool) (o : Output) :
    (o.followDriven c was).proof = o.proof := by
  unfold Output.followDriven
  split <;> rfl

theorem Output.followRetry_proof (now : Time) (c : StationConfig) (begins : Bool) (o : Output) :
    (o.followRetry now c begins).proof = o.proof := by
  unfold Output.followRetry
  split
  · split
    · split <;> rfl
    · split <;> rfl
  · rfl

theorem Output.followInterval_proof (now : Time) (c : StationConfig) (was : Bool) (old : Command) (o : Output) :
    (o.followInterval now c was old).proof = o.proof := by
  unfold Output.followInterval
  repeat' split
  all_goals rfl

/-- No output is proven by the reactions at the entry (R143). -/
theorem Output.follow_proof_of_unjudged {o : Output} (h : o.unjudged) (now : Time) (c : StationConfig) (cfg : OutputConfig)
    (cmd : Command) (lit : Bool) : (o.follow now c cfg cmd lit).proof ≠ .proven := by
  have hcommand : (o.followCommand cmd).proof ≠ .proven := by
    have hnot : o.proof ≠ .proven := by
      rw [h.1]
      split <;> decide
    unfold Output.followCommand
    dsimp only
    split
    · split
      · exact hnot
      · exact (by decide : Proof.off ≠ .proven)
    · split
      · exact (by decide : Proof.unproven ≠ .proven)
      · exact hnot
  have hretried : (o.retried now c cmd lit).proof = (o.followCommand cmd).proof := by
    rw [Output.retried, Output.followDriven_proof, Output.followRetry_proof]
    rfl
  cases hdiagnostics : cfg.diagnostics with
  | true => rwa [Output.follow_of_diagnostics hdiagnostics, Output.followInterval_proof, hretried]
  | false => rwa [Output.follow_of_no_diagnostics hdiagnostics, hretried]

theorem State.enterRun_unproven (s : State) (encoder : Option Word16) (ambient : Byte) :
    (s.enterRun encoder ambient).provenSet = 0 := by
  have hshows := s.enterRun_shows encoder ambient
  have hunjudged (i : Fin 12) : (s.entered encoder ambient).lamps.outputs[i].unjudged := by
    rw [show (s.entered encoder ambient).lamps.outputs = _ from s.entered_outputs encoder ambient]
    exact s.entering_outputs_unjudged encoder ambient i
  have hproof (i : Fin 12) : (s.enterRun encoder ambient).lamps.outputs[i].proof ≠ .proven := by
    rw [hshows.2 i]
    exact Output.follow_proof_of_unjudged (hunjudged i) _ _ _ _ _
  generalize s.enterRun encoder ambient = t at *
  have hnone (f : LampFunction) : t.functionProven f = false := by
    have hempty : t.outputPairs.filter (fun (c, o) => c.function == f && o.proof == .proven) = [] := by
      rw [List.filter_eq_nil_iff]
      rintro _ hmem
      obtain ⟨i, rfl⟩ := (t.mem_outputPairs_iff _).mp hmem
      simpa using fun _ => hproof i
    unfold State.functionProven
    rw [hempty]
    split <;> rfl
  simp only [State.provenSet, State.roadRedProven, hnone]
  rfl

/-- The fields of a STATUS without a demand, a waiting hand request or a proven function (R173). -/
theorem State.statusBody_of_undecided {t : State} {r : Role} {height : Nat} {sat skewWarn : Bool} (role : t.role = r)
    (undecided : t.demand.adopted = none) (granted : t.hand.state ≠ .pending) (unproven : t.provenSet = 0)
    (hoist : r = .hoist → t.level.height = height ∧ t.level.sat = sat ∧ t.level.skewWarn = skewWarn) :
    t.statusBody =
      { role := r.code, hand := decide (t.hand.state = .hand), handPending := false, agreed := false,
        flashActive := t.flashActive, phase := phaseCode r t.phase, lock := t.lamps.lock.code,
        faults := t.faultSet, proven := 0, stamp := 0, echo := none,
        halt :=
          if t.halted then
            some { origin := byteOf (t.halt.firstOrigin.getD 0),
                   reason := (t.halt.firstReason.getD .other).code }
          else none
        hoist :=
          if r = .hoist then
            some { height := BitVec.ofNat 16 height, speed := BitVec.ofInt 16 t.level.speedRef, sat := sat,
                   skewWarn := skewWarn }
          else none
        zone := if t.hasDetectors then some t.zoneReport else none } := by
  have hpart : (if (r == .hoist) = true then some t.hoistPart else none) =
      if r = .hoist then
        some { height := BitVec.ofNat 16 height, speed := BitVec.ofInt 16 t.level.speedRef, sat := sat,
               skewWarn := skewWarn }
      else none := by
    by_cases h : r = .hoist
    · obtain ⟨hheight, hsat, hwarn⟩ := hoist h
      rw [if_pos h, if_pos (beq_iff_eq.mpr h), State.hoistPart, hheight, hsat, hwarn]
    · rw [if_neg h, if_neg (fun hr => h (beq_iff_eq.mp hr))]
  have hgranted : (t.hand.state == .pending) = false := by simpa using granted
  have hhand : t.inHand = decide (t.hand.state = .hand) := by cases h : t.hand.state <;> simp [State.inHand, h]
  rw [State.statusBody, role, hpart, hgranted, hhand, State.permissive_agreed_of_none undecided, undecided, unproven]
  rfl

theorem State.enterRun_granted (s : State) (encoder : Option Word16) (ambient : Byte) :
    (s.enterRun encoder ambient).hand.state ≠ .pending := by
  obtain ⟨-, -, hseq, -⟩ := s.entered_parts encoder ambient
  obtain ⟨-, -, -, -, hhand, -⟩ := State.parts_of_core (s.enterRun_core encoder ambient)
  rw [hhand]
  exact State.worked_unpending (by rw [hseq]) false

theorem State.enterRun_sat {s : State} (role : s.role ≠ .signal) (undecided : s.demand.adopted = none)
    (encoder : Option Word16) (ambient : Byte) : (s.enterRun encoder ambient).level.sat = s.level.sat := by
  obtain ⟨hraised, -, hseq, -, hlevel, -⟩ := s.entered_parts encoder ambient
  obtain ⟨-, -, hsat, -⟩ := s.entering_parts encoder ambient
  obtain ⟨hrole, -, hadopted, -⟩ := s.entered_fixed encoder ambient
  obtain ⟨-, -, hcore, -⟩ := State.parts_of_core (s.enterRun_core encoder ambient)
  rw [hcore, State.worked_sat_of_undecided (by rw [hrole]; exact role) (by rw [hseq]) (hadopted.trans undecided), hlevel,
    hraised.sat, hsat]

theorem State.entering_bothFailed (s : State) (encoder : Option Word16) (ambient : Byte) :
    (s.entering encoder ambient).bothFailed = s.bothFailed := by
  have hstill := s.entering_still encoder ambient
  generalize s.entering encoder ambient = q at *
  have ha : q.linkA.state = s.linkA.state := congrArg (fun x : Still => x.linkA.state) hstill
  have hb : q.linkB.state = s.linkB.state := congrArg (fun x : Still => x.linkB.state) hstill
  rw [State.bothFailed, State.bothFailed, LinkController.failed, LinkController.failed, LinkController.failed,
    LinkController.failed, ha, hb]

/-- The first STATUS is formed of the fields as they then stand (R158). -/
theorem State.enterRun_forms {s : State} (linked : s.bothFailed = false) (encoder : Option Word16) (ambient : Byte) :
    (s.enterRun encoder ambient).placed .status
      { sender := byteOf s.own, seq := (s.enterRun encoder ambient).former.sequence - 1,
        body := .status (s.enterRun encoder ambient).statusBody } ∧
      (s.enterRun encoder ambient).former.period = .running s.clock s.cfg.statusPeriod ∧
      (s.enterRun encoder ambient).former.gap = .running s.clock 10 := by
  have hzone := s.reacted_zoneFlag encoder ambient
  obtain ⟨hcfg, hclock, -⟩ := s.entering_fixed encoder ambient
  obtain ⟨-, hstill, -⟩ := s.entered_parts encoder ambient
  have hreacted := (State.react_still false (s.entered encoder ambient)).trans hstill
  rw [s.enterRun_eq]
  generalize (s.entered encoder ambient).react false = y at *
  have hlinked : y.bothFailed = false := by
    rw [State.bothFailed_of_still hreacted, s.entering_bothFailed]
    exact linked
  obtain ⟨hplaced, hsequence, hperiod, hgap, -⟩ := State.formStatus_formed hlinked
  have hcfg' : y.cfg = s.cfg := (State.cfg_of_still hreacted).trans hcfg
  have hclock' : y.clock = s.clock := (show y.clock = _ from congrArg Still.clock hreacted).trans hclock
  rw [State.formStatus_statusBody hlinked hzone, hsequence, hperiod, hgap, hcfg', hclock', BitVec.add_sub_cancel]
  rw [State.own, hcfg'] at hplaced
  exact ⟨hplaced, rfl, rfl⟩

/-! ### The entry -/

theorem State.enterRun_barrierJournal {s : State} (role : s.role = .barrier) (undecided : s.demand.adopted = none)
    (encoder : Option Word16) (ambient : Byte) :
    (s.enterRun encoder ambient).seq.step = none ∧ (s.enterRun encoder ambient).seq.journal =
      barrierJournal s.clock s.inputs[4].candidate s.inputs[5].candidate s.inputs[6].candidate := by
  obtain ⟨hstep, hjournal⟩ := State.enterRun_journal (by rw [role]; decide) undecided encoder ambient
  obtain ⟨hrole, hclock, -⟩ := s.filled_parts ambient
  refine ⟨hstep, hjournal.trans ?_⟩
  rw [State.rebuiltJournal, hrole, role, hclock]
  show barrierJournal s.clock ((s.filled ambient).gi 4) ((s.filled ambient).gi 5) ((s.filled ambient).gi 6) = _
  rw [s.filled_gi, s.filled_gi, s.filled_gi]
  rfl

theorem State.enterRun_hoistJournal {s : State} (role : s.role = .hoist) (undecided : s.demand.adopted = none)
    (encoder : Option Word16) (ambient : Byte) :
    (s.enterRun encoder ambient).seq.step = none ∧ (s.enterRun encoder ambient).seq.journal =
      hoistJournal s.clock s.inputs[4].candidate s.inputs[5].candidate s.inputs[6].candidate (s.readingAtTop encoder) := by
  obtain ⟨hstep, hjournal⟩ := State.enterRun_journal (by rw [role]; decide) undecided encoder ambient
  obtain ⟨hrole, hclock, -⟩ := s.filled_parts ambient
  have htop : (s.filled ambient).readingAtTop encoder = s.readingAtTop encoder := rfl
  refine ⟨hstep, hjournal.trans ?_⟩
  rw [State.rebuiltJournal, hrole, role, hclock, htop]
  show hoistJournal s.clock ((s.filled ambient).gi 4) ((s.filled ambient).gi 5) ((s.filled ambient).gi 6) _ = _
  rw [s.filled_gi, s.filled_gi, s.filled_gi]
  rfl

theorem Role.hasHandPanel_iff (r : Role) : r.hasHandPanel = true ↔ r = .barrier ∨ r = .hoist := by
  cases r <;> decide

theorem PeerConfig.entry_eq (c : PeerConfig) : c.entry =
    if c.station = 0 then {} else { station := c.station, role := c.role, flags := c.flags, state := .unknown } := by
  unfold PeerConfig.entry
  simp only [beq_iff_eq]

/-- The height that stands after the entry: a hoist's is the reading, where there is one (R95). -/
def State.entryHeight (s : State) (encoder : Option Word16) : Nat :=
  if s.role = .hoist then (encoder.map (·.toNat)).getD s.level.height else s.level.height

theorem State.atStart_eq (s : State) (encoder : Option Word16) : Level.atStart s.level.still s.role encoder =
    if s.role = .hoist then
      { s.level.still with height := s.entryHeight encoder, expiryHeight := s.entryHeight encoder }
    else { s.level.still with timer := .stopped, line := none } := by
  by_cases role : s.role = .hoist
  · rw [Level.atStart, if_pos role, if_pos role, State.entryHeight, if_pos role]
    rfl
  · rw [Level.atStart, if_neg role, if_neg role]

/-- The level controller's part of the first STATUS at a hoist. -/
theorem State.enterRun_reading {s : State} (role : s.role = .hoist) (encoder : Option Word16) (ambient : Byte) :
    (s.enterRun encoder ambient).level.height = s.entryHeight encoder ∧
      (s.enterRun encoder ambient).level.skewWarn = s.level.skewWarn := by
  have hstill := (s.enterRun_still encoder ambient).trans (s.entering_still encoder ambient)
  have hlevel := s.atStart_eq encoder
  rw [if_pos role] at hlevel
  generalize s.enterRun encoder ambient = t at *
  have hkept : t.level.still = Level.atStart s.level.still s.role encoder := congrArg Still.level hstill
  rw [hlevel] at hkept
  exact ⟨congrArg LevelStill.height hkept, congrArg LevelStill.skewWarn hkept⟩

theorem State.enterRun_role (s : State) (encoder : Option Word16) (ambient : Byte) :
    (s.enterRun encoder ambient).role = s.role := by
  obtain ⟨hcfg, -⟩ := s.entering_fixed encoder ambient
  rw [State.role, State.cfg_of_still (s.enterRun_still encoder ambient), hcfg, State.role]

theorem exec_startTimerExpiry {s : State} (stage : s.stage = .starting) (due : s.loader.start.due s.clock = true)
    (encoder : Option Word16) (ambient : Byte) :
    exec (.startTimerExpiry encoder ambient) s = .next (s.enterRun encoder ambient) := by
  show execStartTimerExpiry encoder ambient s = _
  rw [execStartTimerExpiry, stage, due]
  exact congrArg Host.Outcome.next (if_pos (by decide))

theorem hoistJournal_eq (s : State) (encoder : Option Word16) (seated locksIn locksOut : Bool) :
    hoistJournal s.clock seated locksIn locksOut (s.readingAtTop encoder) =
      if seated = true then
        if locksIn = true ∧ locksOut = false then []
        else [{ step := .withdraw, state := if locksOut = true ∧ locksIn = false then .done else .partway,
                start := s.clock }]
      else
        [{ step := .raise,
           state := if ∃ h, encoder = some h ∧ s.cfg.hTop ≤ h.toNat + s.cfg.stopBand then .done else .partway,
           start := s.clock }, { step := .withdraw, state := .done, start := s.clock }] := by
  cases seated with
  | true => exact hoistJournal_of_seated s.clock locksIn locksOut _
  | false =>
    have htop : (if s.readingAtTop encoder = true then EntryState.done else .partway) =
        if ∃ h, encoder = some h ∧ s.cfg.hTop ≤ h.toNat + s.cfg.stopBand then .done else .partway :=
      ite_congr (propext (s.readingAtTop_iff encoder)) (fun _ => rfl) fun _ => rfl
    rw [hoistJournal_of_raised, htop]
    exact (if_neg Bool.false_ne_true).symm

/-- The record of a station that the causes at the entry find clear (R113, R114). -/
theorem State.enterRun_halts {s t : State} {causes : List LocalCause} {estop unread : Prop} [Decidable estop]
    [Decidable unread] (hcauses : causes = (if estop then [.estop] else []) ++ (if unread then [.encoder] else []))
    (hnone : causes = [] → t.halt = {})
    (hone : ∀ c, causes = [c] → t.halt = { ({} : HaltRecord).put c with
        origins := BitVec.twoPow 32 s.own, firstOrigin := some s.own, firstReason := some (.cause c) } ∧
      t.atRest = true ∧ (s.cfg.haltMask ≠ 0 → s.noHaltWaiting → t.placed .haltcmd
        { sender := byteOf s.own, seq := s.former.sequence, body := .halt s.cfg.haltMask (HaltReason.cause c).code }))
    (htwo : causes = [.estop, .encoder] → t.atRest = true ∧ ∃ c : LocalCause, (c = .estop ∨ c = .encoder) ∧ t.halt =
        { live := causeAdd 0 .estop, latched := causeAdd 0 .encoder, origins := BitVec.twoPow 32 s.own,
          firstOrigin := some s.own, firstReason := some (.cause c) }) :
    let halts (c : LocalCause) (record : HaltRecord) : Prop :=
      t.halt = { record with origins := BitVec.twoPow 32 s.own, firstOrigin := some s.own,
                             firstReason := some (.cause c) } ∧ t.atRest = true ∧
        (s.cfg.haltMask ≠ 0 → s.noHaltWaiting → s.bothFailed = false →
          t.placed .haltcmd { sender := byteOf s.own, seq := s.former.sequence,
                              body := .halt s.cfg.haltMask (if c = .estop then 1 else 6) })
    (¬estop → ¬unread → t.halt = {}) ∧
      (estop → ¬unread → halts .estop { live := causeAdd 0 .estop }) ∧
      (¬estop → unread → halts .encoder { latched := causeAdd 0 .encoder }) ∧
      (estop → unread → t.atRest = true ∧ t.halt.origins = BitVec.twoPow 32 s.own ∧
        t.halt.firstOrigin = some s.own ∧
        (t.halt.firstReason = some (.cause .estop) ∨ t.halt.firstReason = some (.cause .encoder)) ∧
        t.halt.live = causeAdd 0 .estop ∧ t.halt.latched = causeAdd 0 .encoder) := by
  intro halts
  refine ⟨fun he hu => hnone (by rw [hcauses, if_neg he, if_neg hu]; rfl), fun he hu => ?_, fun he hu => ?_, fun he hu => ?_⟩
  · obtain ⟨hrecord, hrest, hplaced⟩ := hone .estop (by rw [hcauses, if_pos he, if_neg hu]; rfl)
    exact ⟨hrecord, hrest, fun mask free _ => hplaced mask free⟩
  · obtain ⟨hrecord, hrest, hplaced⟩ := hone .encoder (by rw [hcauses, if_neg he, if_pos hu]; rfl)
    exact ⟨hrecord, hrest, fun mask free _ => hplaced mask free⟩
  · obtain ⟨hrest, c, hc, hrecord⟩ := htwo (by rw [hcauses, if_pos he, if_pos hu]; rfl)
    rw [hrecord]
    exact ⟨hrest, rfl, rfl, hc.imp (by rintro rfl; rfl) (by rintro rfl; rfl), rfl, rfl⟩

/-- Settles O9: the blocks as `State.entering_still` fills them, and each clause by the part of the entry it speaks of. -/
theorem entryIntoRun : Obligations.EntryIntoRun := by
  intro s encoder ambient stage due up down locked entry height
  have hexec := exec_startTimerExpiry stage due encoder ambient
  have hstill := (s.enterRun_still encoder ambient).trans (s.entering_still encoder ambient)
  have hentries : (Vector.ofFn fun i : Fin 16 => s.cfg.peers[i].entry) = Vector.ofFn fun i : Fin 16 =>
      if s.cfg.peers[i].station = 0 then {}
      else { station := s.cfg.peers[i].station, role := s.cfg.peers[i].role, flags := s.cfg.peers[i].flags,
             state := .unknown } := congrArg Vector.ofFn (funext fun i => PeerConfig.entry_eq s.cfg.peers[i])
  rw [s.atStart_eq, hentries] at hstill
  have hbarrier (role : s.role = .barrier) (undecided : s.demand.adopted = none) :=
    State.enterRun_barrierJournal role undecided encoder ambient
  have hhoist (role : s.role = .hoist) (undecided : s.demand.adopted = none) :=
    State.enterRun_hoistJournal role undecided encoder ambient
  have hsignal (role : s.role = .signal) (recovering : s.signal.recovering = true) (i : Fin 16)
      (present : s.cfg.peers[i].station ≠ 0) (moving : s.cfg.peers[i].role = .barrier ∨ s.cfg.peers[i].role = .hoist) :=
    State.enterRun_recovers role recovering encoder ambient present moving
  have hcauses := s.startCauses_eq encoder ambient
  have hnone (undecided : s.demand.adopted = none) :=
    State.enterRun_of_no_cause (encoder := encoder) (ambient := ambient) undecided
  have hone (c : LocalCause) (hhalt : s.halt = {}) (known : s.own < 32) :=
    State.enterRun_of_cause (encoder := encoder) (ambient := ambient) (c := c) hhalt known
  have htwo (hhalt : s.halt = {}) (known : s.own < 32) :=
    State.enterRun_of_two_causes (encoder := encoder) (ambient := ambient) hhalt known
  have hhand (off : s.hand = {}) := State.enterRun_hand off encoder ambient
  have hforms (linked : s.bothFailed = false) := State.enterRun_forms linked encoder ambient
  have hrole := s.enterRun_role encoder ambient
  have hadopted := s.enterRun_adopted encoder ambient
  have hgranted := s.enterRun_granted encoder ambient
  have hunproven := s.enterRun_unproven encoder ambient
  have hreading (role : s.role = .hoist) := State.enterRun_reading role encoder ambient
  have hsat (role : s.role ≠ .signal) (undecided : s.demand.adopted = none) :=
    State.enterRun_sat role undecided encoder ambient
  generalize s.enterRun encoder ambient = t at *
  generalize (s.entering encoder ambient).startCauses encoder = causes at *
  refine ⟨t, hexec, hstill, fun role undecided => ?_, fun role undecided => ?_,
    fun role recovering ⟨i, present, moving⟩ => hsignal role recovering i present moving, ?_, fun off _ => ?_,
    fun linked => ?_⟩
  · rw [← barrierJournal_eq]
    exact hbarrier role undecided
  · obtain ⟨hstep, hjournal⟩ := hhoist role undecided
    exact ⟨hstep, hjournal.trans (hoistJournal_eq s encoder up down locked)⟩
  · intro estop unread halts hhalt undecided low high
    have known : s.own < 32 := by omega
    exact State.enterRun_halts hcauses (fun h => (hnone undecided h).trans hhalt) (fun c => hone c hhalt known)
      (htwo hhalt known)
  · have hgiven := hhand off
    refine ⟨fun key => ?_, fun key => ?_⟩
    · rw [hgiven, if_pos ⟨(Role.hasHandPanel_iff _).mpr key.1, key.2⟩]
    · rw [hgiven, if_neg fun h => key ⟨(Role.hasHandPanel_iff _).mp h.1, h.2⟩]
  · obtain ⟨hplaced, hperiod, hgap⟩ := hforms linked
    refine ⟨hplaced, hperiod, hgap, fun undecided => ?_⟩
    exact State.statusBody_of_undecided hrole (hadopted.trans undecided) hgranted hunproven fun role => by
      obtain ⟨hheight, hwarn⟩ := hreading role
      exact ⟨hheight, hsat (by rw [role]; decide) undecided, hwarn⟩

end Sys2Proof.Machine
